-- ==== Sys2Proof/Word.lean ====
section
/-! DEFINITION. The words of the protocol core: bytes, signed 16-bit values, the feature descriptor
(00_scope.md R7, R9; 10_state.md R24). -/

namespace Sys2Proof

/-- A byte or octet: 8 bits, bit 0 the least significant (R7). -/
abbrev Byte := BitVec 8

/-- A signed 16-bit value held as its two's complement bits (R9). The bits are `toU16`, `BitVec.toInt` is `toI16`.
PRESUMED (spec decision D6, log 5), unsafe if the original is not two's complement. -/
abbrev I16 := BitVec 16

/-- One CarFeatures value (R24): three booleans and four signed 16-bit camera limits, 67 bits. A negative limit means
'unsupported' to the host only; the block never tests it (U12). -/
structure CarFeatures where
  adjustableSpeed : Bool
  driveBackward   : Bool
  batteryPower    : Bool
  panMin  : I16
  panMax  : I16
  tiltMin : I16
  tiltMax : I16
deriving DecidableEq, Repr, Inhabited

end Sys2Proof
end

