-- ==== Sys2Proof/Config.lean ====
section
/-! DEFINITION. What an implementation fixes (00_scope.md R5, 10_state.md R30 to R32), the two OPEN parameters (R6), and
the free values: what the environment answers when a state lists no further answer. A free value has no body, so no proof
can see what it is. -/

namespace Sys2Proof

/-- The checksum ROM and its start value: CRC_TABLE and CRC_INIT (R6, R33, R112). The model carries them in State, so
that they are an argument of the step and every claim over all states is a claim over all tables (log 3). -/
structure CrcRom where
  table : Vector Byte 256
  init  : Byte
deriving DecidableEq, Repr

namespace Config

/-- REQUEST_SIZE (R5): the length of every request frame. -/
def requestSize : Nat := 16

/-- RESPONSE_SIZE (R5): the length of every response frame. -/
def responseSize : Nat := 16

/-- PROTOCOL_VERSION (R5, R182). -/
def protocolVersion : I16 := 1

/-- ROM CMD_PLEN (R31), indexed by command id minus one. -/
def cmdPlen : Vector Nat 7 := #v[0, 0, 0, 2, 2, 4, 0]

/-- ROM RSP_PLEN (R32), indexed by response id minus one. -/
def rspPlen : Vector Nat 6 := #v[0, 2, 0, 2, 9, 2]

/-- CRC_TABLE of the machine after reset: OPEN (R6, D2). Free value, DESIGN CHOICE (log 3), safe: no body, no claim can
use a property of it. -/
opaque crcTable : Vector Byte 256

/-- CRC_INIT of the machine after reset: OPEN (R6, D3). Free value, DESIGN CHOICE (log 3), safe. -/
opaque crcInit : Byte

/-- How many bytes the transport offers at its `k`-th poll, before the limits of R152 are applied (D12, U14). Free value,
DESIGN CHOICE (log 12), safe. -/
opaque freePollSize (k : Nat) : Nat

/-- The `k`-th answer of answerBatteryNearEmpty (R236, U10). Free value, DESIGN CHOICE (log 11), safe. -/
opaque freeNearEmpty (k : Nat) : Bool

/-- The `k`-th answer of getFeatures (R236, U10). Free value, DESIGN CHOICE (log 11), safe. -/
opaque freeFeatures (k : Nat) : CarFeatures

/-- The `k`-th answer of turnCar (R236, U10). Free value, DESIGN CHOICE (log 11), safe. -/
opaque freeTurnCar (k : Nat) : Bool

/-- The `k`-th answer of adjustSpeed (R236, U10). Free value, DESIGN CHOICE (log 11), safe. -/
opaque freeAdjustSpeed (k : Nat) : Bool

/-- The `k`-th answer of rotateCam (R236, U10). Free value, DESIGN CHOICE (log 11), safe. -/
opaque freeRotateCam (k : Nat) : Bool

/-- The `k`-th answer of getBatteryState (R236, U10). Free value, DESIGN CHOICE (log 11), safe. -/
opaque freeBatteryState (k : Nat) : I16

end Config

end Sys2Proof
end

