-- ==== Sys2Proof/Syntax.lean ====
section
/-! DEFINITION. The syntax: one constructor of `Instr` per row of opcode_table.json (30_encoding.md R82, R85, R97), and the
closed enumerations the codec is indexed by (41_codec.md R132). -/

namespace Sys2Proof

/-- The seven commands, in enumeration order: ids 1 to 7 (R82). -/
inductive CommandId where
  | noop | getProtocolVersion | getFeatures | turnCar | adjustSpeed | rotateCam | getBatteryState
deriving DecidableEq, Repr

/-- The six responses, in enumeration order: ids 1 to 6 (R85). -/
inductive ResponseId where
  | ok | error | batteryNearEmpty | protocolVersion | features | batteryState
deriving DecidableEq, Repr

/-- The ErrorId enumeration, codes 0 to 3 (R221). No step raises `undefined` (R227). -/
inductive ErrorId where
  | undefined | invalidCommand | unknownCommand | processCommandError
deriving DecidableEq, Repr

/-- The instructions. A request frame is an instruction (R2), with the operands R83 gives it; `unknownCommand` carries
the unrecognised byte 0. A response row is the instruction the Responding phase runs, with the payload its format gives
it (R84); DESIGN CHOICE (log 2), safe. -/
inductive Instr where
  /-- Request 0x01 (R181). -/
  | noop
  /-- Request 0x02 (R182). -/
  | getProtocolVersion
  /-- Request 0x03 (R183). -/
  | getFeatures
  /-- Request 0x04 (R184). -/
  | turnCar (rotation : I16)
  /-- Request 0x05 (R185). -/
  | adjustSpeed (speed : I16)
  /-- Request 0x06 (R186). -/
  | rotateCam (pan tilt : I16)
  /-- Request 0x07 (R187). -/
  | getBatteryState
  /-- Request with any other byte 0: 0x00 or 0x08 to 0xFF (R188). -/
  | unknownCommand (cmd : Byte)
  /-- Response 0x01 (R202). -/
  | ok
  /-- Response 0x02, the ErrorId value as a signed 16-bit payload (R204). -/
  | error (errorId : I16)
  /-- Response 0x03 (R205). -/
  | batteryNearEmpty
  /-- Response 0x04 (R206). -/
  | protocolVersion (version : I16)
  /-- Response 0x05 (R207). -/
  | features (f : CarFeatures)
  /-- Response 0x06 (R208). -/
  | batteryState (level : I16)
deriving DecidableEq, Repr

/-- The row's direction in opcode_table.json: true for the eight request rows, false for the six response rows. -/
def Instr.isRequest : Instr → Bool
  | .noop | .getProtocolVersion | .getFeatures | .turnCar _ | .adjustSpeed _ | .rotateCam _ _ | .getBatteryState
  | .unknownCommand _ => true
  | .ok | .error _ | .batteryNearEmpty | .protocolVersion _ | .features _ | .batteryState _ => false

end Sys2Proof
end

