-- ==== Sys2Proof/WellFormed.lean ====
section
/-! DEFINITION. Which terms of `Instr` are instructions of the block: the operand ranges the spec gives. -/

namespace Sys2Proof

/-- The byte of an unknown command: 0x00 or 0x08 to 0xFF (30_encoding.md R90). -/
def isUnknownCommandByte (cmd : Byte) : Bool := decide (cmd.toNat = 0 ∨ 8 ≤ cmd.toNat)

/-- An ErrorId value, 0 to 3 (60_exceptions.md R221). -/
def isErrorCode (v : I16) : Bool := decide (v.toNat ≤ 3)

/-- A battery level a host can see, 0 to 32767 (44_response.md R208). -/
def isReportedLevel (v : I16) : Bool := decide (0 ≤ v.toInt)

/-- Well-formedness. Every signed 16-bit operand of a request is well formed (R184 to R186), and so is every feature
descriptor (R183). The ranges of the response operands: log 17, DEDUCED, safe. -/
def wellFormed : Instr → Bool
  | .noop | .getProtocolVersion | .getFeatures | .getBatteryState => true
  | .turnCar _ | .adjustSpeed _ | .rotateCam _ _ => true
  | .unknownCommand cmd => isUnknownCommandByte cmd
  | .ok | .batteryNearEmpty | .features _ => true
  | .error errorId => isErrorCode errorId
  | .protocolVersion version => decide (version = Config.protocolVersion)
  | .batteryState level => isReportedLevel level

end Sys2Proof
end

