-- ==== Sys2Proof/Decode.lean ====
section
/-! DEFINITION. The checksum function (40_checksum.md), the frame codec on bytes (41_codec.md), the decoder of request
frames and of response frames, and after it the encoder (30_encoding.md). -/

namespace Sys2Proof

/-! ### The CRC-8 function -/

/-- The table lookup `CRC_TABLE[i]` (R33, R113): the index is a byte, so it is always in range. -/
def CrcRom.lookup (rom : CrcRom) (i : Byte) : Byte := rom.table[i.toNat]'i.isLt

/-- The update step for one input byte: `CRC <- CRC_TABLE[CRC xor b]` (R113). PRESUMED (general knowledge of the spec, G1,
log 4), unsafe if the original's step differs. -/
def crcStep (rom : CrcRom) (c b : Byte) : Byte := rom.lookup (c ^^^ b)

/-- `checksum(b)` (R115): from CRC_INIT, the update step for each byte in ascending order, no final transformation (R112 to
R114). -/
def checksum (rom : CrcRom) (bytes : List Byte) : Byte := bytes.foldl (crcStep rom) rom.init

/-! ### Ids and payload lengths -/

/-- The command id, 1 to 7 (R82). -/
def CommandId.id : CommandId → Nat
  | .noop => 1 | .getProtocolVersion => 2 | .getFeatures => 3 | .turnCar => 4 | .adjustSpeed => 5 | .rotateCam => 6
  | .getBatteryState => 7

/-- The response id, 1 to 6 (R85). -/
def ResponseId.id : ResponseId → Nat
  | .ok => 1 | .error => 2 | .batteryNearEmpty => 3 | .protocolVersion => 4 | .features => 5 | .batteryState => 6

/-- Byte 0 of a request frame (R82). -/
def CommandId.code (c : CommandId) : Byte := BitVec.ofNat 8 c.id

/-- Byte 0 of a response frame (R85). -/
def ResponseId.code (r : ResponseId) : Byte := BitVec.ofNat 8 r.id

/-- The ErrorId codes, taken as signed 16-bit values (R88, R221). -/
def ErrorId.code : ErrorId → I16
  | .undefined => 0 | .invalidCommand => 1 | .unknownCommand => 2 | .processCommandError => 3

/-- The command a byte 0 names, all 8 bits compared (R82, R180); none for 0x00 and 0x08 to 0xFF. -/
def CommandId.ofByte (b : Byte) : Option CommandId :=
  match b.toNat with
  | 1 => some .noop
  | 2 => some .getProtocolVersion
  | 3 => some .getFeatures
  | 4 => some .turnCar
  | 5 => some .adjustSpeed
  | 6 => some .rotateCam
  | 7 => some .getBatteryState
  | _ => none

/-- The response a byte 0 names (R85); none for 0x00 and 0x07 to 0xFF. -/
def ResponseId.ofByte (b : Byte) : Option ResponseId :=
  match b.toNat with
  | 1 => some .ok
  | 2 => some .error
  | 3 => some .batteryNearEmpty
  | 4 => some .protocolVersion
  | 5 => some .features
  | 6 => some .batteryState
  | _ => none

/-- `payloadLength(command)` (R130): the ROM is indexed by the id minus one. The operand is a closed enumeration, so an id
outside 1 to 7 cannot be written (R132). -/
def CommandId.payloadLength (c : CommandId) : Nat := Config.cmdPlen[c.id - 1]'(by cases c <;> decide)

/-- `payloadLength(response)` (R131): indexed by the id minus one, closed enumeration as above (R132). -/
def ResponseId.payloadLength (r : ResponseId) : Nat := Config.rspPlen[r.id - 1]'(by cases r <;> decide)

/-! ### Signed 16-bit fields -/

/-- The precondition of the 16-bit codec operations (R137): both bytes of the field lie inside the declared payload, which
lies inside the frame before the checksum byte (R53). -/
abbrev InPayload (plen o : Nat) : Prop := o + 1 < plen ∧ plen ≤ 14

/-- The high byte of a signed 16-bit value: `toU16(s)[15:8]` (R86). -/
def hiByte (v : I16) : Byte := v.extractLsb' 8 8

/-- The low byte of a signed 16-bit value: `toU16(s)[7:0]` (R86). -/
def loByte (v : I16) : Byte := v.extractLsb' 0 8

/-- The value of two bytes, most significant first (R54, R86). -/
def i16OfBytes (hi lo : Byte) : I16 := hi ++ lo

/-- `decodeI16(F, o)` (R134): frame bytes `1 + o` and `2 + o`, most significant first, of the frame that `rd` reads. An
offset outside the declared payload cannot be written (R137). The answer is none when the frame holds no value there. -/
def decodeI16 (rd : Nat → Option Byte) (plen o : Nat) (_inside : InPayload plen o) : Option I16 :=
  match rd (1 + o), rd (2 + o) with
  | some hi, some lo => some (i16OfBytes hi lo)
  | _, _ => none

/-! ### Decoding a request -/

/-- The dispatch multiplexer with the operand decode (R180, R83): byte 0 selects the command and only the bytes the
command's rule names are read. The answer is none when one of them holds no value. -/
def decodeArm (cmd : Byte) (rd : Nat → Option Byte) : Option Instr :=
  match CommandId.ofByte cmd with
  | some .noop => some .noop
  | some .getProtocolVersion => some .getProtocolVersion
  | some .getFeatures => some .getFeatures
  | some .turnCar => (decodeI16 rd (CommandId.payloadLength .turnCar) 0 (by decide)).map .turnCar
  | some .adjustSpeed => (decodeI16 rd (CommandId.payloadLength .adjustSpeed) 0 (by decide)).map .adjustSpeed
  | some .rotateCam =>
    match decodeI16 rd (CommandId.payloadLength .rotateCam) 0 (by decide),
      decodeI16 rd (CommandId.payloadLength .rotateCam) 2 (by decide) with
    | some pan, some tilt => some (.rotateCam pan tilt)
    | _, _ => none
  | some .getBatteryState => some .getBatteryState
  | none => some (.unknownCommand cmd)

/-- The command a request frame carries, whatever its checksum (R180). The checksum is a condition of validation
(`decodeRequest`), not of the multiplexer, which reads no byte 15. -/
def decodeCommand (rd : Nat → Option Byte) : Option Instr :=
  match rd 0 with
  | some cmd => decodeArm cmd rd
  | none => none

/-- Why a byte sequence is no frame. -/
inductive DecodeError where
  /-- Not exactly 16 bytes (R80, R154). -/
  | wrongLength
  /-- Byte 15 is not the checksum of bytes 0 to 14 (R93, R155). -/
  | wrongChecksum
  /-- Response direction: byte 0 is not in 1 to 6 (R85). -/
  | notAResponse
  /-- Response direction: a byte after the payload is not zero, or bits 7 to 3 of the flags byte are not (R92). -/
  | paddingNotZero
deriving DecidableEq, Repr

/-- Byte `k` of a byte sequence. -/
def byteOf (bytes : List Byte) (k : Nat) : Option Byte := bytes[k]?

/-- Bytes 0 to 14: the bytes the checksum covers (R117). -/
def coveredBytes (bytes : List Byte) : List Byte := bytes.take 15

/-- CRCOK on a whole frame: byte 15 equals the checksum of bytes 0 to 14 (R155). -/
def hasChecksum (rom : CrcRom) (bytes : List Byte) : Bool :=
  decide (byteOf bytes 15 = some (checksum rom (coveredBytes bytes)))

/-- The request decoder, total on any bytes: a valid frame (R157) gives its command, anything else is rejected by name
(R93). -/
def decodeRequest (rom : CrcRom) (bytes : List Byte) : Except DecodeError Instr :=
  if bytes.length = Config.requestSize then
    if hasChecksum rom bytes then
      match decodeCommand (byteOf bytes) with
      | some i => .ok i
      | none => .error .wrongLength
    else .error .wrongChecksum
  else .error .wrongLength

/-! ### Decoding a response (for the host's side of the formats) -/

/-- The inverse of `encodeFeatures` (R139). -/
def decodeFeatures (rd : Nat → Option Byte) : Option CarFeatures :=
  match rd 1, decodeI16 rd (ResponseId.payloadLength .features) 1 (by decide),
    decodeI16 rd (ResponseId.payloadLength .features) 3 (by decide),
    decodeI16 rd (ResponseId.payloadLength .features) 5 (by decide),
    decodeI16 rd (ResponseId.payloadLength .features) 7 (by decide) with
  | some flags, some panMin, some panMax, some tiltMin, some tiltMax =>
    some { adjustableSpeed := flags.getLsbD 0, driveBackward := flags.getLsbD 1, batteryPower := flags.getLsbD 2,
           panMin := panMin, panMax := panMax, tiltMin := tiltMin, tiltMax := tiltMax }
  | _, _, _, _, _ => none

/-- The response and payload that byte 0 and the payload bytes give (R84, R85). -/
def decodeReply (r : ResponseId) (rd : Nat → Option Byte) : Option Instr :=
  match r with
  | .ok => some .ok
  | .error => (decodeI16 rd (ResponseId.payloadLength .error) 0 (by decide)).map .error
  | .batteryNearEmpty => some .batteryNearEmpty
  | .protocolVersion => (decodeI16 rd (ResponseId.payloadLength .protocolVersion) 0 (by decide)).map .protocolVersion
  | .features => (decodeFeatures rd).map .features
  | .batteryState => (decodeI16 rd (ResponseId.payloadLength .batteryState) 0 (by decide)).map .batteryState

/-- The bytes between the declared payload and byte 14 are zero, and so are bits 7 to 3 of a flags byte (R92). -/
def hasZeroPadding (r : ResponseId) (bytes : List Byte) : Bool :=
  ((coveredBytes bytes).drop (1 + r.payloadLength)).all (· == 0) &&
    (decide (r ≠ .features) || decide ((bytes.getD 1 0).toNat < 8))

/-- The response decoder. The block never decodes a response (R139): this is the host's direction of the formats, and what
a host does with nonzero padding is outside the spec (R92). Rejecting it is a DESIGN CHOICE (log 16), safe. -/
def decodeResponse (rom : CrcRom) (bytes : List Byte) : Except DecodeError Instr :=
  if bytes.length = Config.responseSize then
    if hasChecksum rom bytes then
      match ResponseId.ofByte (bytes.getD 0 0) with
      | none => .error .notAResponse
      | some r =>
        if hasZeroPadding r bytes then
          match decodeReply r (byteOf bytes) with
          | some i => .ok i
          | none => .error .wrongLength
        else .error .paddingNotZero
    else .error .wrongChecksum
  else .error .wrongLength

/-! ### The opcode table's words -/

/-- Byte `k` of the instruction whose bits are the low `nbits` bits of `w`: bit 0 of `w` is bit 0 of frame byte 0. -/
def tableByte (nbits w k : Nat) : Byte := BitVec.ofNat 8 ((w % 2 ^ nbits) >>> (8 * k))

/-- The 16 bytes of a table word, in the order of the link (R55); the bits above `nbits` are 0. -/
def tableFrame (nbits w : Nat) : List Byte := (List.range Config.requestSize).map (tableByte nbits w)

/-- The instruction the block's decoder reads from a table word. The block decodes request frames only (R139), so a word
is read in the request direction: a response row's word (byte 0 = 1 to 6) is also a request row's word. DESIGN CHOICE
(log 15), safe. -/
def decodeTableWord (nbits w : Nat) : Option Instr :=
  if nbits ≤ 8 * Config.requestSize then decodeCommand (byteOf (tableFrame nbits w)) else none

/-! ### Encoding -/

/-- Bytes 0 to 14 of a frame: type byte, payload, zero fill (R52, R203; for requests R95). -/
def frameBody (code : Byte) (payload : List Byte) : List Byte :=
  code :: payload ++ List.replicate (14 - payload.length) 0

/-- The two bytes of a signed 16-bit field, most significant first (R86). -/
def i16Bytes (v : I16) : List Byte := [hiByte v, loByte v]

/-- The flags byte: bit 0 adjustableSpeed, bit 1 driveBackward, bit 2 batteryPower, bits 7 to 3 zero (R87, R138). -/
def flagsByte (f : CarFeatures) : Byte :=
  (if f.adjustableSpeed then 1 else 0) + (if f.driveBackward then 2 else 0) + (if f.batteryPower then 4 else 0)

/-- The nine payload bytes of a feature descriptor (R87). -/
def featureBytes (f : CarFeatures) : List Byte :=
  flagsByte f :: (i16Bytes f.panMin ++ i16Bytes f.panMax ++ i16Bytes f.tiltMin ++ i16Bytes f.tiltMax)

/-- Bytes 0 to 14 of the frame of an instruction (R81, R84); the unused bytes of a request are 0x00 (R95; log 18). -/
def encodeBody : Instr → List Byte
  | .noop => frameBody (CommandId.code .noop) []
  | .getProtocolVersion => frameBody (CommandId.code .getProtocolVersion) []
  | .getFeatures => frameBody (CommandId.code .getFeatures) []
  | .turnCar rotation => frameBody (CommandId.code .turnCar) (i16Bytes rotation)
  | .adjustSpeed speed => frameBody (CommandId.code .adjustSpeed) (i16Bytes speed)
  | .rotateCam pan tilt => frameBody (CommandId.code .rotateCam) (i16Bytes pan ++ i16Bytes tilt)
  | .getBatteryState => frameBody (CommandId.code .getBatteryState) []
  | .unknownCommand cmd => frameBody cmd []
  | .ok => frameBody (ResponseId.code .ok) []
  | .error errorId => frameBody (ResponseId.code .error) (i16Bytes errorId)
  | .batteryNearEmpty => frameBody (ResponseId.code .batteryNearEmpty) []
  | .protocolVersion version => frameBody (ResponseId.code .protocolVersion) (i16Bytes version)
  | .features f => frameBody (ResponseId.code .features) (featureBytes f)
  | .batteryState level => frameBody (ResponseId.code .batteryState) (i16Bytes level)

/-- The 16 bytes of the frame of an instruction: byte 15 is the checksum of bytes 0 to 14 (R51, R52). -/
def encode (rom : CrcRom) (i : Instr) : List Byte := encodeBody i ++ [checksum rom (encodeBody i)]

end Sys2Proof
end

