-- ==== Sys2Proof/Machine/State.lean ====
section
/-! DEFINITION. The state of the machine as plain data: PHASE, the datapath registers, the condition signals, the two frame
buffers, the checksum ROM (10_state.md), the transport and the vehicle as far as the block acts on them (R40, R62 to
R64), and the environment's coming answers (R12). -/

namespace Sys2Proof.Machine

/-- The phase register PHASE (R25), the block's program counter (R2). -/
inductive Phase where
  | idle | validating | dispatching | responding
deriving DecidableEq, Repr

/-- Why a step stops with a fault. The spec's own errors are responses, not faults (R220, R232). -/
inductive Fault where
  /-- A byte of a frame buffer that holds no value was read (R45, U15). Raised by the Validating and Dispatching phases on an
  RX that lists too few bytes and by the encoder's reads of TX. Safe: the spec forbids the read, and no step that begins
  in Idle makes it. -/
  | byteHoldsNoValue
deriving DecidableEq, Repr

/-- Why an instruction is refused. -/
inductive Refusal where
  /-- No meaning is given to the instruction yet. Raised by a refused arm of exec; safe. No arm is refused today. -/
  | notModelled (mnemonic : String)
deriving DecidableEq, Repr

/-- A frame buffer: the bytes that hold a value, by index, in strictly rising order (R35, R50). An index that is not
listed holds no value (R45; log 9, DESIGN CHOICE, safe). -/
abbrev Memory := List Host.Cell

/-- A function of the vehicle-capability port with its arguments (R236). -/
inductive VehicleCall where
  | powerOn
  | isConnected
  | getFeatures
  | turnCar (rotation : I16)
  | adjustSpeed (speed : I16)
  | rotateCam (pan tilt : I16)
  | getBatteryState
  | answerBatteryNearEmpty
deriving DecidableEq, Repr

/-- What one source of the environment answers: the coming answers, first to come first, and how many it has given. Past the
listed answers the answer is a free value of Config applied to the count. The model's own (log 11, DESIGN CHOICE, safe). -/
structure Answers (α : Type) where
  coming : List α := []
  given  : Nat := 0
deriving DecidableEq, Repr

/-- The transport (R40, R237): the bytes waiting, oldest first; the connectivity flag; how many bytes each coming poll
offers; and every byte handed to the transmit port, in order (R55, R63). -/
structure Transport where
  queue     : List Byte := []
  connected : Bool := true
  polls     : Answers Nat := {}
  sent      : List Byte := []
deriving DecidableEq, Repr

/-- The vehicle (R40, R236): the coming answers of each function and the calls made, oldest first (R64). -/
structure Vehicle where
  nearEmpty    : Answers Bool := {}
  features     : Answers CarFeatures := {}
  turnCar      : Answers Bool := {}
  adjustSpeed  : Answers Bool := {}
  rotateCam    : Answers Bool := {}
  batteryState : Answers I16 := {}
  calls        : List VehicleCall := []
deriving DecidableEq, Repr

/-- The state. Register names are those of 10_state.md R22, R25, R26, R35. -/
structure State where
  phase  : Phase
  crc    : Byte
  rxlen  : Fin 17
  cmd    : Byte
  arg0   : I16
  arg1   : I16
  res    : I16
  feat   : CarFeatures
  rsp    : ResponseId
  nodata : Bool
  lenok  : Bool
  crcok  : Bool
  ovr    : Bool
  opok   : Bool
  rx     : Memory
  tx     : Memory
  rom    : CrcRom
  transport : Transport
  vehicle   : Vehicle
deriving DecidableEq, Repr

/-- The CarFeatures value of the reset FEAT register: all false, all zero (log 6). -/
def zeroFeatures : CarFeatures :=
  { adjustableSpeed := false, driveBackward := false, batteryPower := false,
    panMin := 0, panMax := 0, tiltMin := 0, tiltMax := 0 }

/-- The machine right after reset: PHASE = Idle (R45, R250). The spec leaves every other register and signal unspecified
and lets a model take zero (R45): DESIGN CHOICE (logs 6, 7, 8), unsafe. No buffer byte holds a value (R45, log 9). The
ROM is a constant of the build, OPEN (R6, log 3). The collaborators: logs 11, 12, 13, 21, DESIGN CHOICE, unsafe. -/
def State.reset : State where
  phase  := .idle
  crc    := 0
  rxlen  := 0
  cmd    := 0
  arg0   := 0
  arg1   := 0
  res    := 0
  feat   := zeroFeatures
  rsp    := .ok
  nodata := false
  lenok  := false
  crcok  := false
  ovr    := false
  opok   := false
  rx     := []
  tx     := []
  rom    := { table := Config.crcTable, init := Config.crcInit }
  transport := {}
  vehicle   := {}

end Sys2Proof.Machine
end

