-- ==== Sys2Proof/Machine/Ops.lean ====
section
/-! DEFINITION. The named operations over the frame buffers, the CRC register and the three ports, taking an error outcome
and the return to Idle (20_memory.md, 40_checksum.md, 42_dispatch.md, 44_response.md, 60_exceptions.md). -/

namespace Sys2Proof.Machine

/-! ### Frame buffers -/

/-- Byte `a` of a buffer; none when it holds no value (R45). -/
def Memory.read : Memory → Nat → Option Byte
  | [], _ => none
  | (k, v) :: rest, a => if k = a then some v else Memory.read rest a

/-- Set byte `a` of a buffer, and no other; the list stays in rising order (R57). -/
def Memory.write : Memory → Nat → Byte → Memory
  | [], a, b => [(a, b)]
  | (k, v) :: rest, a, b =>
    if a < k then (a, b) :: (k, v) :: rest
    else if a = k then (a, b) :: rest
    else (k, v) :: Memory.write rest a b

/-- Addresses strictly rising from `lo`, each inside the 16-byte frame (R35, R50). -/
def Memory.wfFrom (lo : Nat) : Memory → Bool
  | [] => true
  | (k, _) :: rest => decide (lo ≤ k) && decide (k < 16) && Memory.wfFrom (k + 1) rest

/-- The canonical form of a buffer: strictly rising indices 0 to 15. An unlisted index holds no value, so no listed
entry can equal what an unlisted one reads as. -/
def Memory.wf (m : Memory) : Bool := Memory.wfFrom 0 m

/-- The buffer that lists a byte sequence from index `i` on. -/
def Memory.ofBytesFrom (i : Nat) : List Byte → Memory
  | [] => []
  | b :: rest => (i, b) :: Memory.ofBytesFrom (i + 1) rest

/-- The buffer that lists a byte sequence from index 0 on and no other byte. -/
def Memory.ofBytes (bytes : List Byte) : Memory := Memory.ofBytesFrom 0 bytes

/-- The `n` bytes from index `i` on; none when one of them holds no value. -/
def Memory.bytes (m : Memory) (i : Nat) : Nat → Option (List Byte)
  | 0 => some []
  | n + 1 =>
    match m.read i, Memory.bytes m (i + 1) n with
    | some b, some rest => some (b :: rest)
    | _, _ => none

/-- `MemRead(buf, i, 1)` (R56). The index type is the precondition of R60. -/
def memRead1 (m : Memory) (i : Fin 16) : Option Byte := m.read i.val

/-- `MemRead(buf, i, 2)` (R56): `buf[i] ++ buf[i+1]`, first byte most significant. -/
def memRead2 (m : Memory) (i : Fin 15) : Option (BitVec 16) :=
  match m.read i.val, m.read (i.val + 1) with
  | some hi, some lo => some (hi ++ lo)
  | _, _ => none

/-- `MemWrite(buf, i, 1, v)` (R57). -/
def memWrite1 (m : Memory) (i : Fin 16) (v : Byte) : Memory := m.write i.val v

/-- `MemWrite(buf, i, 2, v)` (R57): `buf[i] <- v[15:8]`, `buf[i+1] <- v[7:0]`. -/
def memWrite2 (m : Memory) (i : Fin 15) (v : BitVec 16) : Memory :=
  (m.write i.val (v.extractLsb' 8 8)).write (i.val + 1) (v.extractLsb' 0 8)

/-- Write 0x00 to the `n` bytes from index `i` on (R203). -/
def zeroFill (m : Memory) (i : Nat) : Nat → Memory
  | 0 => m
  | n + 1 => zeroFill (m.write i 0) (i + 1) n

/-! ### The checksum micro-operation on the CRC register -/

/-- Reset step: `CRC <- CRC_INIT` (R112). -/
def crcReset (s : State) : State := { s with crc := s.rom.init }

/-- Update step: `CRC <- CRC_TABLE[CRC xor b]` (R113). -/
def crcUpdate (s : State) (b : Byte) : State := { s with crc := crcStep s.rom s.crc b }

/-- The checksum micro-operation on a byte sequence (R115): its result is the CRC register afterwards (R114). -/
def runChecksum (s : State) (bytes : List Byte) : State := bytes.foldl crcUpdate (crcReset s)

/-! ### The environment's answers -/

/-- The next answer of a source: the first listed one, else the free value for the number of answers given so far. -/
def Answers.next {α : Type} (free : Nat → α) (a : Answers α) : α :=
  match a.coming with
  | x :: _ => x
  | [] => free a.given

/-- A source after it has given an answer. -/
def Answers.advance {α : Type} (a : Answers α) : Answers α := { coming := a.coming.tail, given := a.given + 1 }

/-- A source whose next answer is `x`. -/
def Answers.offer {α : Type} (a : Answers α) (x : α) : Answers α := { a with coming := x :: a.coming }

/-- A vehicle that answers the next call of an instruction with success: true to an actuation, level 0 to a battery query.
Used by State.withFetchWord only (log 14). -/
def answerFor (i : Option Instr) (v : Vehicle) : Vehicle :=
  match i with
  | some (.turnCar _) => { v with turnCar := v.turnCar.offer true }
  | some (.adjustSpeed _) => { v with adjustSpeed := v.adjustSpeed.offer true }
  | some (.rotateCam _ _) => { v with rotateCam := v.rotateCam.offer true }
  | some .getBatteryState => { v with batteryState := v.batteryState.offer 0 }
  | some .noop | some .getProtocolVersion | some .getFeatures | some (.unknownCommand _) => v
  | some .ok | some (.error _) | some .batteryNearEmpty | some (.protocolVersion _) | some (.features _)
  | some (.batteryState _) | none => v

/-- What answerBatteryNearEmpty answers next. -/
def State.nearEmptyAnswer (s : State) : Bool := s.vehicle.nearEmpty.next Config.freeNearEmpty

/-- What getFeatures answers next. -/
def State.featuresAnswer (s : State) : CarFeatures := s.vehicle.features.next Config.freeFeatures

/-- What turnCar answers next. -/
def State.turnCarAnswer (s : State) : Bool := s.vehicle.turnCar.next Config.freeTurnCar

/-- What adjustSpeed answers next. -/
def State.adjustSpeedAnswer (s : State) : Bool := s.vehicle.adjustSpeed.next Config.freeAdjustSpeed

/-- What rotateCam answers next. -/
def State.rotateCamAnswer (s : State) : Bool := s.vehicle.rotateCam.next Config.freeRotateCam

/-- What getBatteryState answers next. -/
def State.batteryStateAnswer (s : State) : I16 := s.vehicle.batteryState.next Config.freeBatteryState

/-! ### The vehicle-capability port: one transaction per call (R236). The call is recorded, the answer is used up; what
the answer is stands in the definitions above. -/

/-- `call answerBatteryNearEmpty()`. -/
def callNearEmpty (s : State) : State :=
  { s with vehicle := { s.vehicle with
      nearEmpty := s.vehicle.nearEmpty.advance, calls := s.vehicle.calls ++ [.answerBatteryNearEmpty] } }

/-- `call getFeatures()`. -/
def callGetFeatures (s : State) : State :=
  { s with vehicle := { s.vehicle with
      features := s.vehicle.features.advance, calls := s.vehicle.calls ++ [.getFeatures] } }

/-- `call turnCar(rotation)`. -/
def callTurnCar (rotation : I16) (s : State) : State :=
  { s with vehicle := { s.vehicle with
      turnCar := s.vehicle.turnCar.advance, calls := s.vehicle.calls ++ [.turnCar rotation] } }

/-- `call adjustSpeed(speed)`. -/
def callAdjustSpeed (speed : I16) (s : State) : State :=
  { s with vehicle := { s.vehicle with
      adjustSpeed := s.vehicle.adjustSpeed.advance, calls := s.vehicle.calls ++ [.adjustSpeed speed] } }

/-- `call rotateCam(pan, tilt)`, pan first. -/
def callRotateCam (pan tilt : I16) (s : State) : State :=
  { s with vehicle := { s.vehicle with
      rotateCam := s.vehicle.rotateCam.advance, calls := s.vehicle.calls ++ [.rotateCam pan tilt] } }

/-- `call getBatteryState()`. -/
def callGetBatteryState (s : State) : State :=
  { s with vehicle := { s.vehicle with
      batteryState := s.vehicle.batteryState.advance, calls := s.vehicle.calls ++ [.getBatteryState] } }

/-! ### The receive port -/

/-- How many bytes the next poll delivers (R152): what the transport offers, at most 16 and at most the number waiting;
0 when none waits or the transport is disconnected (R153, R251). Every number in that range is possible (log 12). -/
def State.pollCount (s : State) : Fin 17 :=
  if s.transport.connected && !s.transport.queue.isEmpty then
    ⟨min (s.transport.polls.next Config.freePollSize) (min Config.requestSize s.transport.queue.length), by
      simp only [Config.requestSize]; omega⟩
  else 0

/-- The bytes the next poll delivers: the oldest waiting, in arrival order (R152). -/
def State.pollBytes (s : State) : List Byte := s.transport.queue.take s.pollCount.val

/-- `poll()` (R152): RXLEN <- n, RX[0..n-1] <- d, the other bytes of RX hold no value, and the n bytes are removed from
the transport (R62). -/
def poll (s : State) : State :=
  { s with
    rxlen := s.pollCount
    rx := Memory.ofBytes s.pollBytes
    transport := { s.transport with
      queue := s.transport.queue.drop s.pollCount.val, polls := s.transport.polls.advance } }

/-! ### Outcomes of an invocation -/

/-- Choose the response: `RSP <- r`, `PHASE <- Responding` (R180). -/
def answer (r : ResponseId) (s : State) : State := { s with rsp := r, phase := .responding }

/-- `raise Error(eid)` (R224), the block's exception entry: RSP <- Error, RES <- code, PHASE <- Responding, and nothing
else: no state is saved, no mode changes, there is no vector (R231). -/
def raiseError (e : ErrorId) (s : State) : State := answer .error { s with res := e.code }

/-- The safety override's outcome: RSP <- BatteryNearEmpty, PHASE <- Responding (R158, R226). -/
def overrideWithNearEmpty (s : State) : State := answer .batteryNearEmpty s

/-- The return: PHASE <- Idle (R212, R232). Nothing is restored. -/
def returnToIdle (s : State) : State := { s with phase := .idle }

/-- `transmit(TX)` (R212): the 16 bytes of TX are handed to the transport in index order (R55, R63), then PHASE <- Idle.
It always completes (D16, log 19: unsafe for liveness). -/
def transmit (s : State) : Host.Outcome State Fault Refusal :=
  match s.tx.bytes 0 Config.responseSize with
  | some frame => .next (returnToIdle { s with transport := { s.transport with sent := s.transport.sent ++ frame } })
  | none => .fault .byteHoldsNoValue

/-- Go on with a next state; a fault or a refusal ends the step. -/
def andThen (o : Host.Outcome State Fault Refusal) (f : State → Host.Outcome State Fault Refusal) :
    Host.Outcome State Fault Refusal :=
  match o with
  | .next s => f s
  | .fault r => .fault r
  | .refused r => .refused r

end Sys2Proof.Machine
end

