-- ==== Sys2Proof/Machine/Flags.lean ====
section
/-! DEFINITION. The five condition signals of 10_state.md R26: what sets each. -/

namespace Sys2Proof.Machine

/-- `NODATA`: the poll delivered zero bytes (R153). -/
def setNoData (s : State) : State := { s with nodata := decide (s.rxlen = 0) }

/-- `LENOK = (RXLEN = REQUEST_SIZE)` (R154). -/
def setLenOk (s : State) : State := { s with lenok := decide (s.rxlen.val = Config.requestSize) }

/-- `CRCOK = (checksum(RX[0..14]) = RX[15])` (R155), for the covered bytes and the last byte of RX. The running checksum is
left in CRC (R110). -/
def setCrcOk (body : List Byte) (last : Byte) (s : State) : State :=
  { runChecksum s body with crcok := decide ((runChecksum s body).crc = last) }

/-- `OVR = call answerBatteryNearEmpty()`, exactly one call (R158). -/
def setOvr (s : State) : State := { callNearEmpty s with ovr := s.nearEmptyAnswer }

/-- `OPOK` after an actuation call: the call returned true (R184 to R186). -/
def setOpOk (returned : Bool) (s : State) : State := { s with opok := returned }

/-- `OPOK = (RES >= 0)` after getBatteryState (R187). -/
def setOpOkFromLevel (s : State) : State := { s with opok := decide (0 ≤ s.res.toInt) }

end Sys2Proof.Machine
end

