-- ==== Sys2Proof/Machine/Commands.lean ====
section
/-! DEFINITION. The seven commands and the unknown-command arm (43_commands.md): the part of an invocation between the
hand-over (R160) and the Responding phase. -/

namespace Sys2Proof.Machine

/-- The end of an actuation command: `if OPOK then RSP <- Ok else raise Error(ProcessCommandError)` (R184 to R186). -/
def answerActuation (s : State) : State := if s.opok then answer .ok s else raiseError .processCommandError s

/-- Noop (R181): respond Ok. -/
def execNoop (s : State) : Host.Outcome State Fault Refusal := .next (answer .ok s)

/-- GetProtocolVersion (R182): `RES <- PROTOCOL_VERSION`, respond ProtocolVersion. -/
def execGetProtocolVersion (s : State) : Host.Outcome State Fault Refusal :=
  .next (answer .protocolVersion { s with res := Config.protocolVersion })

/-- GetFeatures (R183): `FEAT <- call getFeatures()`, respond Features; there is no failure path. -/
def execGetFeatures (s : State) : Host.Outcome State Fault Refusal :=
  .next (answer .features { callGetFeatures s with feat := s.featuresAnswer })

/-- TurnCar (R184): `ARG0 <- rotation`, `OPOK = call turnCar(ARG0)`. -/
def execTurnCar (rotation : I16) (s : State) : Host.Outcome State Fault Refusal :=
  let s1 : State := { s with arg0 := rotation }
  .next (answerActuation (setOpOk s1.turnCarAnswer (callTurnCar s1.arg0 s1)))

/-- AdjustSpeed (R185): `ARG0 <- speed`, `OPOK = call adjustSpeed(ARG0)`. -/
def execAdjustSpeed (speed : I16) (s : State) : Host.Outcome State Fault Refusal :=
  let s1 : State := { s with arg0 := speed }
  .next (answerActuation (setOpOk s1.adjustSpeedAnswer (callAdjustSpeed s1.arg0 s1)))

/-- RotateCam (R186): `ARG0 <- pan`, `ARG1 <- tilt`, `OPOK = call rotateCam(ARG0, ARG1)`. -/
def execRotateCam (pan tilt : I16) (s : State) : Host.Outcome State Fault Refusal :=
  let s1 : State := { s with arg0 := pan, arg1 := tilt }
  .next (answerActuation (setOpOk s1.rotateCamAnswer (callRotateCam s1.arg0 s1.arg1 s1)))

/-- GetBatteryState (R187): `RES <- call getBatteryState()`, `OPOK = (RES >= 0)`; a negative level is a failure. -/
def execGetBatteryState (s : State) : Host.Outcome State Fault Refusal :=
  let s1 := setOpOkFromLevel { callGetBatteryState s with res := s.batteryStateAnswer }
  .next (if s1.opok then answer .batteryState s1 else raiseError .processCommandError s1)

/-- Unknown command (R188): `raise Error(UnknownCommand)`, whatever the byte; no payload byte is read. -/
def execUnknownCommand (_cmd : Byte) (s : State) : Host.Outcome State Fault Refusal :=
  .next (raiseError .unknownCommand s)

end Sys2Proof.Machine
end

