-- ==== Sys2Proof/Machine/Operands.lean ====
section
/-! DEFINITION. The operand forms in the frame buffers: the 16-bit fields and the feature descriptor written into TX, the
frame before its checksum, and the operands the registers give a response (41_codec.md, 44_response.md). -/

namespace Sys2Proof.Machine

/-- `encodeI16(s, F, o)` (R135): writes frame bytes `1 + o` and `2 + o` and no other. An offset outside the declared
payload cannot be written (R137). -/
def encodeI16 (v : I16) (F : Memory) (plen o : Nat) (inside : InPayload plen o) : Memory :=
  memWrite2 F ⟨1 + o, by have h := inside; omega⟩ v

/-- `encodeFeatures(f, F)` (R138): the flags byte at frame byte 1, the four limits at frame bytes 2 to 9. -/
def encodeFeatures (f : CarFeatures) (F : Memory) : Memory :=
  let F := memWrite1 F 1 (flagsByte f)
  let F := encodeI16 f.panMin F (ResponseId.payloadLength .features) 1 (by decide)
  let F := encodeI16 f.panMax F (ResponseId.payloadLength .features) 3 (by decide)
  let F := encodeI16 f.tiltMin F (ResponseId.payloadLength .features) 5 (by decide)
  encodeI16 f.tiltMax F (ResponseId.payloadLength .features) 7 (by decide)

/-- The start of a build (R201): `TX[0] <- RSP`, `TX[1..14] <- 0x00`, in a buffer that holds no other value (the buffer is
local to the invocation, R35; log 10). -/
def blankFrame (r : ResponseId) : Memory := zeroFill (memWrite1 [] 0 r.code) 1 14

/-- A frame without payload (format RSP-N, R84). -/
def emptyFrame (r : ResponseId) : Memory := blankFrame r

/-- A frame with one signed 16-bit value at payload offset 0 (format RSP-I, R84). -/
def valueFrame (r : ResponseId) (v : I16) (inside : InPayload r.payloadLength 0) : Memory :=
  encodeI16 v (blankFrame r) r.payloadLength 0 inside

/-- A frame with a feature descriptor (format RSP-F, R84). -/
def featuresFrame (f : CarFeatures) : Memory := encodeFeatures f (blankFrame .features)

/-- The response instruction that the registers select in the Responding phase (R200): RSP gives the row, RES or FEAT its
payload. -/
def responseOf (s : State) : Instr :=
  match s.rsp with
  | .ok => .ok
  | .error => .error s.res
  | .batteryNearEmpty => .batteryNearEmpty
  | .protocolVersion => .protocolVersion s.res
  | .features => .features s.feat
  | .batteryState => .batteryState s.res

end Sys2Proof.Machine
end

