-- ==== Sys2Proof/Machine/Responses.lean ====
section
/-! DEFINITION. The six responses (44_response.md): each builds its frame in TX, stamps it and transmits it. -/

namespace Sys2Proof.Machine

/-- The end of every build (R201): the frame stands in TX, `TX[15] <- checksum(TX[0..14])` (R210), then `transmit(TX)`
(R212). -/
def stampAndTransmit (frame : Memory) (s : State) : Host.Outcome State Fault Refusal :=
  match frame.bytes 0 15 with
  | some body =>
    let s1 := runChecksum { s with tx := frame } body
    transmit { s1 with tx := memWrite1 s1.tx 15 s1.crc }
  | none => .fault .byteHoldsNoValue

/-- Ok (R202). -/
def execOk (s : State) : Host.Outcome State Fault Refusal := stampAndTransmit (emptyFrame .ok) s

/-- Error (R204): the ErrorId value at payload offset 0. -/
def execError (errorId : I16) (s : State) : Host.Outcome State Fault Refusal :=
  stampAndTransmit (valueFrame .error errorId (by decide)) s

/-- BatteryNearEmpty (R205). -/
def execBatteryNearEmpty (s : State) : Host.Outcome State Fault Refusal :=
  stampAndTransmit (emptyFrame .batteryNearEmpty) s

/-- ProtocolVersion (R206): the version at payload offset 0. -/
def execProtocolVersion (version : I16) (s : State) : Host.Outcome State Fault Refusal :=
  stampAndTransmit (valueFrame .protocolVersion version (by decide)) s

/-- Features (R207): the feature descriptor at frame bytes 1 to 9. -/
def execFeatures (f : CarFeatures) (s : State) : Host.Outcome State Fault Refusal :=
  stampAndTransmit (featuresFrame f) s

/-- BatteryState (R208): the level at payload offset 0. -/
def execBatteryState (level : I16) (s : State) : Host.Outcome State Fault Refusal :=
  stampAndTransmit (valueFrame .batteryState level (by decide)) s

end Sys2Proof.Machine
end

