-- ==== Sys2Proof/Machine/Dispatch.lean ====
section
/-! DEFINITION. One arm per instruction, each one call of its meaning. -/

namespace Sys2Proof.Machine

def exec (i : Instr) (s : State) : Host.Outcome State Fault Refusal :=
  match i with
  -- requests (43_commands.md)
  | .noop => Sys2Proof.Machine.execNoop s
  | .getProtocolVersion => Sys2Proof.Machine.execGetProtocolVersion s
  | .getFeatures => Sys2Proof.Machine.execGetFeatures s
  | .turnCar rotation => Sys2Proof.Machine.execTurnCar rotation s
  | .adjustSpeed speed => Sys2Proof.Machine.execAdjustSpeed speed s
  | .rotateCam pan tilt => Sys2Proof.Machine.execRotateCam pan tilt s
  | .getBatteryState => Sys2Proof.Machine.execGetBatteryState s
  | .unknownCommand cmd => Sys2Proof.Machine.execUnknownCommand cmd s
  -- responses (44_response.md)
  | .ok => Sys2Proof.Machine.execOk s
  | .error errorId => Sys2Proof.Machine.execError errorId s
  | .batteryNearEmpty => Sys2Proof.Machine.execBatteryNearEmpty s
  | .protocolVersion version => Sys2Proof.Machine.execProtocolVersion version s
  | .features f => Sys2Proof.Machine.execFeatures f s
  | .batteryState level => Sys2Proof.Machine.execBatteryState level s

end Sys2Proof.Machine
end

