-- ==== Sys2Proof/Machine/Phases.lean ====
section
/-! DEFINITION. The four phases of an invocation and their transitions (42_dispatch.md R150, R162). Each definition is the
rest of the invocation from its phase on, so that the one for Idle is the whole of `handleNextCommand`. -/

namespace Sys2Proof.Machine

/-- Responding: build, stamp and transmit the response the registers select, then Idle (R201, R212). -/
def fromResponding (s : State) : Host.Outcome State Fault Refusal := exec (responseOf s) s

/-- The hand-over (R160): `CMD <- RX[0]`, decode the operands the command's rule names (R180) and run its rule. -/
def dispatch (s : State) : Host.Outcome State Fault Refusal :=
  match memRead1 s.rx 0 with
  | some c =>
    let s1 : State := { s with cmd := c }
    match decodeArm s1.cmd s1.rx.read with
    | some i => exec i s1
    | none => .fault .byteHoldsNoValue
  | none => .fault .byteHoldsNoValue

/-- Dispatching: the battery override first (R158), else the command (R160), then Responding. -/
def fromDispatching (s : State) : Host.Outcome State Fault Refusal :=
  let s1 := setOvr s
  if s1.ovr then fromResponding (overrideWithNearEmpty s1)
  else andThen (dispatch s1) fromResponding

/-- The checksum test (R155) and what follows it: Dispatching for a valid frame (R157), else Error InvalidCommand (R156). -/
def checkChecksum (s : State) : Host.Outcome State Fault Refusal :=
  match s.rx.bytes 0 15, memRead1 s.rx 15 with
  | some body, some last =>
    let s1 := setCrcOk body last s
    if s1.crcok then fromDispatching { s1 with phase := .dispatching }
    else fromResponding (raiseError .invalidCommand s1)
  | _, _ => .fault .byteHoldsNoValue

/-- Validating: the length test (R154), then the checksum test, which is made only when the length is right (R155). -/
def fromValidating (s : State) : Host.Outcome State Fault Refusal :=
  let s1 := setLenOk s
  if s1.lenok then checkChecksum s1 else fromResponding (raiseError .invalidCommand s1)

/-- Idle: the poll (R152). No data ends the invocation at once (R153); otherwise Validating. -/
def fromIdle (s : State) : Host.Outcome State Fault Refusal :=
  let s1 := setNoData (poll s)
  if s1.nodata then .next s1 else fromValidating { s1 with phase := .validating }

end Sys2Proof.Machine
end

