-- ==== Sys2Proof/Machine/Step.lean ====
section
/-! DEFINITION. The step: one invocation of `handleNextCommand` (42_dispatch.md R151, R162). -/

namespace Sys2Proof.Machine

/-- One step. From Idle it is one whole invocation, which is one atomic step of the block (R12, D26). In a state whose PHASE
is another one (inside an invocation, R25) it is the rest of that invocation. DESIGN CHOICE (log 1), safe. -/
def step (s : State) : Host.Outcome State Fault Refusal :=
  match s.phase with
  | .idle => fromIdle s
  | .validating => fromValidating s
  | .dispatching => fromDispatching s
  | .responding => fromResponding s

/-- The state with a table word standing where the next step takes its instruction from: in RX, as a valid frame (the
word's bytes 0 to 14 and their checksum), with PHASE at Dispatching, where the command is read (R160). The answers this
invocation takes from the environment (R12) are given with it: false to the battery query, without which no command runs
(R158), and one to the command's own call, so that the step rests on no free value. Nothing else changes. DESIGN CHOICE
(log 14), safe. -/
def State.withFetchWord (s : State) (nbits w : Nat) : State :=
  let body := coveredBytes (tableFrame nbits w)
  { s with
    phase := .dispatching
    rx := Memory.ofBytes (body ++ [checksum s.rom body])
    vehicle := answerFor (decodeTableWord nbits w)
      { s.vehicle with nearEmpty := s.vehicle.nearEmpty.offer false } }

end Sys2Proof.Machine
end

