-- ==== Sys2Proof/Machine/Reference.lean ====
section
/-! DEFINITION. The two reference instantiations of the checksum ROM (40_checksum.md R118), tables built from any
polynomial in their way, and the bit-serial register that a build may have in place of the ROM (R119). For test vectors and
statements about them only: no table here is claimed to be the deployed one, and the machine uses none. R118 and R119 mark
the polynomials and the register as the spec's general knowledge. -/

namespace Sys2Proof

/-- Rows 0 to 3 of the table of REF_A (R118). -/
def refARows0 : List Byte :=
  [0x00, 0x07, 0x0E, 0x09, 0x1C, 0x1B, 0x12, 0x15, 0x38, 0x3F, 0x36, 0x31, 0x24, 0x23, 0x2A, 0x2D] ++
  [0x70, 0x77, 0x7E, 0x79, 0x6C, 0x6B, 0x62, 0x65, 0x48, 0x4F, 0x46, 0x41, 0x54, 0x53, 0x5A, 0x5D] ++
  [0xE0, 0xE7, 0xEE, 0xE9, 0xFC, 0xFB, 0xF2, 0xF5, 0xD8, 0xDF, 0xD6, 0xD1, 0xC4, 0xC3, 0xCA, 0xCD] ++
  [0x90, 0x97, 0x9E, 0x99, 0x8C, 0x8B, 0x82, 0x85, 0xA8, 0xAF, 0xA6, 0xA1, 0xB4, 0xB3, 0xBA, 0xBD]

theorem refARows0_length : refARows0.length = 64 := rfl

/-- Rows 4 to 7 of the table of REF_A (R118). -/
def refARows1 : List Byte :=
  [0xC7, 0xC0, 0xC9, 0xCE, 0xDB, 0xDC, 0xD5, 0xD2, 0xFF, 0xF8, 0xF1, 0xF6, 0xE3, 0xE4, 0xED, 0xEA] ++
  [0xB7, 0xB0, 0xB9, 0xBE, 0xAB, 0xAC, 0xA5, 0xA2, 0x8F, 0x88, 0x81, 0x86, 0x93, 0x94, 0x9D, 0x9A] ++
  [0x27, 0x20, 0x29, 0x2E, 0x3B, 0x3C, 0x35, 0x32, 0x1F, 0x18, 0x11, 0x16, 0x03, 0x04, 0x0D, 0x0A] ++
  [0x57, 0x50, 0x59, 0x5E, 0x4B, 0x4C, 0x45, 0x42, 0x6F, 0x68, 0x61, 0x66, 0x73, 0x74, 0x7D, 0x7A]

theorem refARows1_length : refARows1.length = 64 := rfl

/-- Rows 8 to 11 of the table of REF_A (R118). -/
def refARows2 : List Byte :=
  [0x89, 0x8E, 0x87, 0x80, 0x95, 0x92, 0x9B, 0x9C, 0xB1, 0xB6, 0xBF, 0xB8, 0xAD, 0xAA, 0xA3, 0xA4] ++
  [0xF9, 0xFE, 0xF7, 0xF0, 0xE5, 0xE2, 0xEB, 0xEC, 0xC1, 0xC6, 0xCF, 0xC8, 0xDD, 0xDA, 0xD3, 0xD4] ++
  [0x69, 0x6E, 0x67, 0x60, 0x75, 0x72, 0x7B, 0x7C, 0x51, 0x56, 0x5F, 0x58, 0x4D, 0x4A, 0x43, 0x44] ++
  [0x19, 0x1E, 0x17, 0x10, 0x05, 0x02, 0x0B, 0x0C, 0x21, 0x26, 0x2F, 0x28, 0x3D, 0x3A, 0x33, 0x34]

theorem refARows2_length : refARows2.length = 64 := rfl

/-- Rows 12 to 15 of the table of REF_A (R118). -/
def refARows3 : List Byte :=
  [0x4E, 0x49, 0x40, 0x47, 0x52, 0x55, 0x5C, 0x5B, 0x76, 0x71, 0x78, 0x7F, 0x6A, 0x6D, 0x64, 0x63] ++
  [0x3E, 0x39, 0x30, 0x37, 0x22, 0x25, 0x2C, 0x2B, 0x06, 0x01, 0x08, 0x0F, 0x1A, 0x1D, 0x14, 0x13] ++
  [0xAE, 0xA9, 0xA0, 0xA7, 0xB2, 0xB5, 0xBC, 0xBB, 0x96, 0x91, 0x98, 0x9F, 0x8A, 0x8D, 0x84, 0x83] ++
  [0xDE, 0xD9, 0xD0, 0xD7, 0xC2, 0xC5, 0xCC, 0xCB, 0xE6, 0xE1, 0xE8, 0xEF, 0xFA, 0xFD, 0xF4, 0xF3]

theorem refARows3_length : refARows3.length = 64 := rfl

/-- REF_A (R118): CRC_INIT = 0x00 and the printed table. -/
def refA : CrcRom where
  table := ⟨⟨refARows0 ++ refARows1 ++ refARows2 ++ refARows3⟩, by
    simp [refARows0_length, refARows1_length, refARows2_length, refARows3_length]⟩
  init := 0x00

/-- Rows 0 to 3 of the table of REF_B (R118). -/
def refBRows0 : List Byte :=
  [0x00, 0x5E, 0xBC, 0xE2, 0x61, 0x3F, 0xDD, 0x83, 0xC2, 0x9C, 0x7E, 0x20, 0xA3, 0xFD, 0x1F, 0x41] ++
  [0x9D, 0xC3, 0x21, 0x7F, 0xFC, 0xA2, 0x40, 0x1E, 0x5F, 0x01, 0xE3, 0xBD, 0x3E, 0x60, 0x82, 0xDC] ++
  [0x23, 0x7D, 0x9F, 0xC1, 0x42, 0x1C, 0xFE, 0xA0, 0xE1, 0xBF, 0x5D, 0x03, 0x80, 0xDE, 0x3C, 0x62] ++
  [0xBE, 0xE0, 0x02, 0x5C, 0xDF, 0x81, 0x63, 0x3D, 0x7C, 0x22, 0xC0, 0x9E, 0x1D, 0x43, 0xA1, 0xFF]

theorem refBRows0_length : refBRows0.length = 64 := rfl

/-- Rows 4 to 7 of the table of REF_B (R118). -/
def refBRows1 : List Byte :=
  [0x46, 0x18, 0xFA, 0xA4, 0x27, 0x79, 0x9B, 0xC5, 0x84, 0xDA, 0x38, 0x66, 0xE5, 0xBB, 0x59, 0x07] ++
  [0xDB, 0x85, 0x67, 0x39, 0xBA, 0xE4, 0x06, 0x58, 0x19, 0x47, 0xA5, 0xFB, 0x78, 0x26, 0xC4, 0x9A] ++
  [0x65, 0x3B, 0xD9, 0x87, 0x04, 0x5A, 0xB8, 0xE6, 0xA7, 0xF9, 0x1B, 0x45, 0xC6, 0x98, 0x7A, 0x24] ++
  [0xF8, 0xA6, 0x44, 0x1A, 0x99, 0xC7, 0x25, 0x7B, 0x3A, 0x64, 0x86, 0xD8, 0x5B, 0x05, 0xE7, 0xB9]

theorem refBRows1_length : refBRows1.length = 64 := rfl

/-- Rows 8 to 11 of the table of REF_B (R118). -/
def refBRows2 : List Byte :=
  [0x8C, 0xD2, 0x30, 0x6E, 0xED, 0xB3, 0x51, 0x0F, 0x4E, 0x10, 0xF2, 0xAC, 0x2F, 0x71, 0x93, 0xCD] ++
  [0x11, 0x4F, 0xAD, 0xF3, 0x70, 0x2E, 0xCC, 0x92, 0xD3, 0x8D, 0x6F, 0x31, 0xB2, 0xEC, 0x0E, 0x50] ++
  [0xAF, 0xF1, 0x13, 0x4D, 0xCE, 0x90, 0x72, 0x2C, 0x6D, 0x33, 0xD1, 0x8F, 0x0C, 0x52, 0xB0, 0xEE] ++
  [0x32, 0x6C, 0x8E, 0xD0, 0x53, 0x0D, 0xEF, 0xB1, 0xF0, 0xAE, 0x4C, 0x12, 0x91, 0xCF, 0x2D, 0x73]

theorem refBRows2_length : refBRows2.length = 64 := rfl

/-- Rows 12 to 15 of the table of REF_B (R118). -/
def refBRows3 : List Byte :=
  [0xCA, 0x94, 0x76, 0x28, 0xAB, 0xF5, 0x17, 0x49, 0x08, 0x56, 0xB4, 0xEA, 0x69, 0x37, 0xD5, 0x8B] ++
  [0x57, 0x09, 0xEB, 0xB5, 0x36, 0x68, 0x8A, 0xD4, 0x95, 0xCB, 0x29, 0x77, 0xF4, 0xAA, 0x48, 0x16] ++
  [0xE9, 0xB7, 0x55, 0x0B, 0x88, 0xD6, 0x34, 0x6A, 0x2B, 0x75, 0x97, 0xC9, 0x4A, 0x14, 0xF6, 0xA8] ++
  [0x74, 0x2A, 0xC8, 0x96, 0x15, 0x4B, 0xA9, 0xF7, 0xB6, 0xE8, 0x0A, 0x54, 0xD7, 0x89, 0x6B, 0x35]

theorem refBRows3_length : refBRows3.length = 64 := rfl

/-- REF_B (R118): CRC_INIT = 0x00 and the printed table. -/
def refB : CrcRom where
  table := ⟨⟨refBRows0 ++ refBRows1 ++ refBRows2 ++ refBRows3⟩, by
    simp [refBRows0_length, refBRows1_length, refBRows2_length, refBRows3_length]⟩
  init := 0x00

/-! ### Tables built from a polynomial, and the bit-serial register -/

/-- The order in which a shift register takes the bits of a byte: REF_A's way, most significant first, shifts left, REF_B's
way, least significant first, shifts right (R118). -/
inductive BitOrder where
  | msbFirst | lsbFirst
deriving DecidableEq, Repr

/-- One shift by a polynomial (R118, R119): shift by one, and exclusive-or the polynomial when the bit shifted out was 1.
For `lsbFirst` the polynomial is written reflected. -/
def shiftBy (order : BitOrder) (poly c : Byte) : Byte :=
  match order with
  | .msbFirst => if c.getLsbD 7 then (c <<< 1) ^^^ poly else c <<< 1
  | .lsbFirst => if c.getLsbD 0 then (c >>> 1) ^^^ poly else c >>> 1

/-- One shift of REF_A: left by one, exclusive-or 0x07 when the bit shifted out was 1 (R118). -/
def shiftA (c : Byte) : Byte := shiftBy .msbFirst 0x07 c

/-- One shift of REF_B: right by one, exclusive-or 0x8C when the bit shifted out was 1 (R118). -/
def shiftB (c : Byte) : Byte := shiftBy .lsbFirst 0x8C c

/-- Eight repetitions (R118). -/
def eightTimes (f : Byte → Byte) (c : Byte) : Byte := f (f (f (f (f (f (f (f c)))))))

/-- The table is built from the polynomial in the way of R118: entry `i` is eight shifts of `i`. -/
def CrcRom.BuiltFrom (rom : CrcRom) (order : BitOrder) (poly : Byte) : Prop :=
  ∀ i : Byte, rom.lookup i = eightTimes (shiftBy order poly) i

/-- The checksum ROM built from a polynomial, with any start value. -/
def polynomialRom (order : BitOrder) (poly init : Byte) : CrcRom where
  table := Vector.ofFn fun i => eightTimes (shiftBy order poly) (BitVec.ofFin i)
  init := init

/-- The bit-serial register's step for one input byte (R119): `CRC <- CRC xor b`, then eight shifts. -/
def serialStep (order : BitOrder) (poly c b : Byte) : Byte := eightTimes (shiftBy order poly) (c ^^^ b)

/-- The register's step under REF_A. -/
def serialStepA (c b : Byte) : Byte := serialStep .msbFirst 0x07 c b

/-- The register's step under REF_B. -/
def serialStepB (c b : Byte) : Byte := serialStep .lsbFirst 0x8C c b

/-- The checksum by the register (R119): from the start value, the step for each byte in ascending order. -/
def serialChecksum (order : BitOrder) (poly init : Byte) (bytes : List Byte) : Byte :=
  bytes.foldl (serialStep order poly) init

namespace Machine

/-- One input byte fed to the CRC register by a build that has the shift register in place of the ROM (R119). -/
def serialUpdate (order : BitOrder) (poly : Byte) (s : State) (b : Byte) : State :=
  { s with crc := serialStep order poly s.crc b }

/-- The checksum micro-operation of such a build: the reset step of R112, then the register for each byte. -/
def runSerialChecksum (order : BitOrder) (poly : Byte) (s : State) (bytes : List Byte) : State :=
  bytes.foldl (serialUpdate order poly) (crcReset s)

end Machine

end Sys2Proof
end

