-- ==== Sys2Proof/Safety.lean ====
section
/-! DEFINITION. The terms the claims use: what an invocation should answer and call, as functions of what the environment
gives (42_dispatch.md R163, R164; 44_response.md R213), what the block may ever send, and the invariants. -/

namespace Sys2Proof.Machine

/-- Fifteen bytes followed by their checksum (R95 `.req`, R210). -/
def stamped (rom : CrcRom) (body : List Byte) : List Byte := body ++ [checksum rom body]

/-- A valid frame (R157): 16 bytes whose last is the checksum of the others. -/
def validFrame (rom : CrcRom) (bytes : List Byte) : Bool := decide (bytes.length = 16) && hasChecksum rom bytes

/-- The state after a response frame has been built in TX, stamped and transmitted (R201, R210, R212): TX, CRC, the sent
bytes and PHASE, and nothing else. -/
def afterSending (s : State) (frame : List Byte) : State :=
  { s with
    crc := checksum s.rom (coveredBytes frame)
    tx := Memory.ofBytes frame
    transport := { s.transport with sent := s.transport.sent ++ frame }
    phase := .idle }

/-- The state in which the command of a valid frame runs, when the override answered false: after the poll (R152), the two
tests (R154, R155), the battery query (R158) and `CMD <- RX[0]` (R160). -/
def atCommand (s : State) : State :=
  { s with
    phase := .dispatching
    rxlen := 16
    rx := Memory.ofBytes s.pollBytes
    crc := checksum s.rom (coveredBytes s.pollBytes)
    cmd := s.pollBytes.getD 0 0
    nodata := false
    lenok := true
    crcok := true
    ovr := false
    transport := (poll s).transport
    vehicle := (callNearEmpty s).vehicle }

/-- What the environment answers in an invocation, one value per function (R12, R236). -/
structure EnvAnswers where
  nearEmpty    : Bool
  features     : CarFeatures
  turnCar      : Bool
  adjustSpeed  : Bool
  rotateCam    : Bool
  batteryState : I16
deriving DecidableEq, Repr

/-- The answers a state holds ready. -/
def answersOf (s : State) : EnvAnswers :=
  { nearEmpty := s.nearEmptyAnswer, features := s.featuresAnswer, turnCar := s.turnCarAnswer,
    adjustSpeed := s.adjustSpeedAnswer, rotateCam := s.rotateCamAnswer, batteryState := s.batteryStateAnswer }

/-- The response to a valid frame whose override answered false (R189). -/
def commandReply (a : EnvAnswers) (d : List Byte) : Instr :=
  match (d.getD 0 0).toNat with
  | 1 => .ok
  | 2 => .protocolVersion 1
  | 3 => .features a.features
  | 4 => if a.turnCar then .ok else .error 3
  | 5 => if a.adjustSpeed then .ok else .error 3
  | 6 => if a.rotateCam then .ok else .error 3
  | 7 => if 0 ≤ a.batteryState.toInt then .batteryState a.batteryState else .error 3
  | _ => .error 2

/-- The response as a function of the poll result and the answers, first match wins (R164, R213, R229). -/
def replyTo (rom : CrcRom) (a : EnvAnswers) (d : List Byte) : Option Instr :=
  if d.length = 0 then none
  else if d.length ≠ 16 then some (.error 1)
  else if hasChecksum rom d = false then some (.error 1)
  else if a.nearEmpty then some .batteryNearEmpty
  else some (commandReply a d)

/-- The bytes an invocation sends: the frame of its response, or none (R163). -/
def replyBytes (rom : CrcRom) (a : EnvAnswers) (d : List Byte) : List Byte :=
  match replyTo rom a d with
  | some i => encode rom i
  | none => []

/-- The capability call of a command (R189), its operands as they stand in the frame (R83, R190). -/
def commandCalls (d : List Byte) : List VehicleCall :=
  match (d.getD 0 0).toNat with
  | 3 => [.getFeatures]
  | 4 => [.turnCar (i16OfBytes (d.getD 1 0) (d.getD 2 0))]
  | 5 => [.adjustSpeed (i16OfBytes (d.getD 1 0) (d.getD 2 0))]
  | 6 => [.rotateCam (i16OfBytes (d.getD 1 0) (d.getD 2 0)) (i16OfBytes (d.getD 3 0) (d.getD 4 0))]
  | 7 => [.getBatteryState]
  | _ => []

/-- The capability calls of an invocation, in order (R68, R163). -/
def callsTo (rom : CrcRom) (a : EnvAnswers) (d : List Byte) : List VehicleCall :=
  if validFrame rom d then .answerBatteryNearEmpty :: (if a.nearEmpty then [] else commandCalls d) else []

/-- The response row of an instruction (R85); none for a request. -/
def responseIdOf : Instr → Option ResponseId
  | .ok => some .ok
  | .error _ => some .error
  | .batteryNearEmpty => some .batteryNearEmpty
  | .protocolVersion _ => some .protocolVersion
  | .features _ => some .features
  | .batteryState _ => some .batteryState
  | .noop | .getProtocolVersion | .getFeatures | .turnCar _ | .adjustSpeed _ | .rotateCam _ _ | .getBatteryState
  | .unknownCommand _ => none

/-- How many payload bytes after byte 0 a command byte declares (R51): none for an unknown command. -/
def declaredPayload (cmd : Byte) : Nat :=
  match CommandId.ofByte cmd with
  | some c => c.payloadLength
  | none => 0

/-- The responses the block may send: well formed, and no Error with code Undefined (R85, R227). -/
def sendable (i : Instr) : Bool := !i.isRequest && wellFormed i && decide (i ≠ .error 0)

/-- What has been sent is a sequence of whole frames of sendable responses (R210, R212, R227). -/
def LegalStream (rom : CrcRom) (sent : List Byte) : Prop :=
  ∃ replies : List Instr, (∀ i ∈ replies, sendable i = true) ∧ sent = replies.flatMap (encode rom)

/-- Between invocations PHASE is Idle (R25) and all that has been sent is legal. -/
def QuietAndLegal (s : State) : Prop := s.phase = .idle ∧ LegalStream s.rom s.transport.sent

/-- Both buffers are in canonical form. -/
def BuffersCanonical (s : State) : Prop := s.rx.wf = true ∧ s.tx.wf = true

/-- Two states that agree on the ROM, the transport and the vehicle, whatever the block's registers and buffers hold. -/
def SameOutside (s t : State) : Prop := s.rom = t.rom ∧ s.transport = t.transport ∧ s.vehicle = t.vehicle

/-- A safe run: from the state every number of steps answers a next state with PHASE = Idle. -/
def SafeRun (s : State) : Prop := ∀ k, ∃ t, core.run k s = .next t ∧ t.phase = .idle

end Sys2Proof.Machine
end

