-- ==== Sys2Proof/Certificates/Slice0/Obligations.lean ====
section
/-! DEFINITION. The statements for the provers. Each says which rule of spec/ it formalises. Statements about the
environment's answers hold for every answer, the free values of Config among them; statements about the checksum hold for
every ROM. -/

open Sys2Proof Sys2Proof.Machine

/-! ### Encoding -/

/-- Words written out from R81 to R83 and R86, with any last byte, decode to the commands they stand for. -/
def Obligations.WrittenOutRequestsDecode : Prop :=
  ∀ cc : Byte,
    decodeCommand (byteOf [0x01, 0xAA, 0xAA, 0xAA, 0xAA, 0xAA, 0xAA, 0xAA, 0xAA, 0xAA, 0xAA, 0xAA, 0xAA, 0xAA, 0xAA, cc])
      = some .noop ∧
    decodeCommand (byteOf [0x04, 0x12, 0x34, 0xDE, 0xAD, 0xBE, 0xEF, 0x01, 0x02, 0x03, 0x04, 0x05, 0x06, 0x07, 0x08, cc])
      = some (.turnCar 4660) ∧
    decodeCommand (byteOf [0x05, 0x7F, 0xFF, 0, 0, 0, 0, 0, 0, 0, 0, 0, 0, 0, 0, cc]) = some (.adjustSpeed 32767) ∧
    decodeCommand (byteOf [0x06, 0x00, 0x64, 0xFF, 0x9C, 0, 0, 0, 0, 0, 0, 0, 0, 0, 0, cc])
      = some (.rotateCam 100 (-100)) ∧
    decodeCommand (byteOf [0x09, 0, 0, 0, 0, 0, 0, 0, 0, 0, 0, 0, 0, 0, 0, cc]) = some (.unknownCommand 0x09)

/-- R81 to R83, R95: the frame of a well-formed request, stamped with its checksum, decodes to that request, with every
operand at every value. -/
def Obligations.EncodedRequestsDecodeBack : Prop :=
  ∀ (rom : CrcRom) (i : Instr), i.isRequest = true → wellFormed i = true →
    decodeRequest rom (encode rom i) = .ok i

/-- R84, R85, R139: the frame of a well-formed response decodes to that response, with every payload at every value. -/
def Obligations.EncodedResponsesDecodeBack : Prop :=
  ∀ (rom : CrcRom) (i : Instr), i.isRequest = false → wellFormed i = true →
    decodeResponse rom (encode rom i) = .ok i

/-- R84, R92: a byte sequence that decodes as a response is the frame of that response, so a response has one frame. Rests
on the model's rejection of nonzero padding (log 16). -/
def Obligations.ResponseFramesHaveOneMeaning : Prop :=
  ∀ (rom : CrcRom) (f : List Byte) (i : Instr), decodeResponse rom f = .ok i → encode rom i = f

/-- R91: a frame with a correct checksum is accepted whatever its unused bytes, and they do not matter to what it decodes
to. -/
def Obligations.UnusedRequestBytesAreIgnored : Prop :=
  ∀ (rom : CrcRom) (f : List Byte), f.length = 16 → hasChecksum rom f = true →
    ∃ i, decodeRequest rom f = .ok i ∧
      ∀ g : List Byte, g.length = 16 → hasChecksum rom g = true →
        g.take (1 + declaredPayload (f.getD 0 0)) = f.take (1 + declaredPayload (f.getD 0 0)) →
        decodeRequest rom g = .ok i

/-- R82, R90: what the multiplexer answers is a well-formed request. -/
def Obligations.DecodedCommandsAreWellFormed : Prop :=
  ∀ (rd : Nat → Option Byte) (i : Instr), decodeCommand rd = some i → i.isRequest = true ∧ wellFormed i = true

/-- R83: the operand positions of each command; no other command reads a payload byte. -/
def Obligations.OperandsStandWhereDeclared : Prop :=
  (∀ (rd : Nat → Option Byte) (h l : Byte), rd 1 = some h → rd 2 = some l →
    (rd 0 = some 0x04 → decodeCommand rd = some (.turnCar (i16OfBytes h l))) ∧
    (rd 0 = some 0x05 → decodeCommand rd = some (.adjustSpeed (i16OfBytes h l)))) ∧
  (∀ (rd : Nat → Option Byte) (h l h' l' : Byte), rd 0 = some 0x06 →
    rd 1 = some h → rd 2 = some l → rd 3 = some h' → rd 4 = some l' →
    decodeCommand rd = some (.rotateCam (i16OfBytes h l) (i16OfBytes h' l'))) ∧
  (∀ (c : Byte), c ≠ 0x04 → c ≠ 0x05 → c ≠ 0x06 →
    ∃ i, ∀ rd : Nat → Option Byte, rd 0 = some c → decodeCommand rd = some i)

/-! ### Codec and buffers -/

/-- R136: a signed 16-bit value written at a payload offset is read back there, and writing back the value read changes no
byte: the mapping between values and byte pairs is a bijection. -/
def Obligations.EncodeDecodeI16RoundTrip : Prop :=
  ∀ (F : Memory) (plen o : Nat) (inside : InPayload plen o),
    (∀ v : I16, decodeI16 (encodeI16 v F plen o inside).read plen o inside = some v) ∧
    (∀ v : I16, decodeI16 F.read plen o inside = some v →
      ∀ a, (encodeI16 v F plen o inside).read a = F.read a)

/-- R56, R57: a read after a write gives the value written, at both widths; a 2-byte access is big-endian; a write changes
no other byte. -/
def Obligations.MemReadAfterMemWrite : Prop :=
  ∀ m : Memory,
    (∀ (i : Fin 16) (v : Byte), memRead1 (memWrite1 m i v) i = some v ∧
      ∀ a, a ≠ i.val → (memWrite1 m i v).read a = m.read a) ∧
    (∀ (i : Fin 15) (v : BitVec 16), memRead2 (memWrite2 m i v) i = some v ∧
      (memWrite2 m i v).read i.val = some (v.extractLsb' 8 8) ∧
      (memWrite2 m i v).read (i.val + 1) = some (v.extractLsb' 0 8) ∧
      ∀ a, a ≠ i.val → a ≠ i.val + 1 → (memWrite2 m i v).read a = m.read a) ∧
    (∀ i : Fin 16, memRead1 m i = m.read i.val) ∧
    (∀ (i : Fin 15) (h l : Byte), m.read i.val = some h → m.read (i.val + 1) = some l →
      ∃ v, memRead2 m i = some v ∧ v.toNat = h.toNat * 256 + l.toNat)

/-- R138: the nine payload bytes of a feature descriptor, and no other byte is written. -/
def Obligations.FeaturePayloadBytes : Prop :=
  ∀ (f : CarFeatures) (F : Memory),
    (∃ flags, (encodeFeatures f F).read 1 = some flags ∧
      flags.toNat = (if f.adjustableSpeed then 1 else 0) + (if f.driveBackward then 2 else 0)
        + (if f.batteryPower then 4 else 0)) ∧
    (encodeFeatures f F).read 2 = some (hiByte f.panMin) ∧ (encodeFeatures f F).read 3 = some (loByte f.panMin) ∧
    (encodeFeatures f F).read 4 = some (hiByte f.panMax) ∧ (encodeFeatures f F).read 5 = some (loByte f.panMax) ∧
    (encodeFeatures f F).read 6 = some (hiByte f.tiltMin) ∧ (encodeFeatures f F).read 7 = some (loByte f.tiltMin) ∧
    (encodeFeatures f F).read 8 = some (hiByte f.tiltMax) ∧ (encodeFeatures f F).read 9 = some (loByte f.tiltMax) ∧
    ∀ a, a = 0 ∨ 9 < a → (encodeFeatures f F).read a = F.read a

/-- R130, R131: the payload lengths, indexed by the id minus one. -/
def Obligations.PayloadLengthsByIdMinusOne : Prop :=
  (∀ c : CommandId, [0, 0, 0, 2, 2, 4, 0][c.id - 1]? = some c.payloadLength ∧ 1 ≤ c.id ∧ c.id ≤ 7) ∧
  (∀ r : ResponseId, [0, 2, 0, 2, 9, 2][r.id - 1]? = some r.payloadLength ∧ 1 ≤ r.id ∧ r.id ≤ 6)

/-! ### Checksum -/

/-- R112 to R115 (the update step as presumed there, log 4): the micro-operation leaves in CRC the fold of the table lookup
from CRC_INIT, whatever CRC held before, and changes nothing else. -/
def Obligations.ChecksumIsTheTableFold : Prop :=
  ∀ (s : State) (bytes : List Byte),
    runChecksum s bytes =
      { s with crc := bytes.foldl (fun c x => s.rom.table[(c ^^^ x).toNat]'(c ^^^ x).isLt) s.rom.init }

/-- R118: both reference tables are the eight shifts, both start at 0, and both check values are as printed. -/
def Obligations.ReferenceTablesAreEightShifts : Prop :=
  (∀ i : Byte, refA.lookup i = eightTimes shiftA i ∧ refB.lookup i = eightTimes shiftB i) ∧
  refA.init = 0x00 ∧ refB.init = 0x00 ∧
  checksum refA [0x31, 0x32, 0x33, 0x34, 0x35, 0x36, 0x37, 0x38, 0x39] = 0xF4 ∧
  checksum refB [0x31, 0x32, 0x33, 0x34, 0x35, 0x36, 0x37, 0x38, 0x39] = 0xA1

/-- R119: the table-driven function is the bit-serial shift register on every byte sequence, under REF_A, under REF_B, and
under every table built from a polynomial in the way of either, whatever the start value; with such a table the checksum
micro-operation of a build that has the register in place of the ROM does to every state what the ROM's does. -/
def Obligations.SerialRegisterEqualsTable : Prop :=
  (∀ bytes : List Byte,
    checksum refA bytes = bytes.foldl serialStepA refA.init ∧
    checksum refB bytes = bytes.foldl serialStepB refB.init) ∧
  (∀ (order : BitOrder) (poly : Byte) (rom : CrcRom), rom.BuiltFrom order poly →
    ∀ bytes : List Byte, checksum rom bytes = serialChecksum order poly rom.init bytes) ∧
  (∀ (order : BitOrder) (poly : Byte) (s : State), s.rom.BuiltFrom order poly →
    ∀ bytes : List Byte, runChecksum s bytes = runSerialChecksum order poly s bytes)

/-! ### The invocation -/

/-- R152: what a poll delivers and sets; every number up to 16 and up to the number waiting is possible. -/
def Obligations.PollDeliversOldestBytes : Prop :=
  ∀ s : State,
    (poll s).rxlen.val = s.pollBytes.length ∧ s.pollBytes.length ≤ 16 ∧
    s.transport.queue = s.pollBytes ++ (poll s).transport.queue ∧
    (∀ k, k < s.pollBytes.length → (poll s).rx.read k = s.pollBytes[k]? ∧ ((poll s).rx.read k).isSome = true) ∧
    (∀ k, s.pollBytes.length ≤ k → (poll s).rx.read k = none) ∧
    (∀ n rest, s.transport.connected = true → n ≤ 16 → n ≤ s.transport.queue.length →
      s.transport.polls.coming = n :: rest → s.pollBytes.length = n) ∧
    poll s = { s with rxlen := (poll s).rxlen, rx := (poll s).rx, transport := (poll s).transport } ∧
    (poll s).transport.connected = s.transport.connected ∧ (poll s).transport.sent = s.transport.sent

/-- R153: a poll that delivers nothing ends the invocation: nothing is called, built or sent, no byte is taken, and no
register changes but RXLEN, which is local to the invocation. A disconnected transport delivers nothing. -/
def Obligations.NoDataIsNoOp : Prop :=
  ∀ s : State, s.phase = .idle →
    (s.transport.connected = false → s.pollBytes = []) ∧
    (s.pollBytes = [] →
      ∃ t, step s = .next t ∧ t.phase = .idle ∧ t.rxlen = 0 ∧ t.nodata = true ∧
        t.transport.queue = s.transport.queue ∧ t.transport.sent = s.transport.sent ∧
        t.transport.connected = s.transport.connected ∧ t.vehicle = s.vehicle ∧
        t.crc = s.crc ∧ t.cmd = s.cmd ∧ t.arg0 = s.arg0 ∧ t.arg1 = s.arg1 ∧ t.res = s.res ∧ t.feat = s.feat ∧
        t.rsp = s.rsp ∧ t.lenok = s.lenok ∧ t.crcok = s.crcok ∧ t.ovr = s.ovr ∧ t.opok = s.opok ∧
        t.tx = s.tx ∧ t.rom = s.rom)

/-- R156: a short read or a checksum mismatch is answered with one Error InvalidCommand, whatever the other bytes; byte 0
is not decoded and the vehicle is not called. -/
def Obligations.InvalidFrameIsAnswered : Prop :=
  ∀ s : State, s.phase = .idle → s.pollBytes ≠ [] → validFrame s.rom s.pollBytes = false →
    ∃ t, step s = .next t ∧ t.phase = .idle ∧ t.rsp = .error ∧ t.res = 1 ∧
      t.transport.sent = s.transport.sent ++ stamped s.rom [0x02, 0x00, 0x01, 0, 0, 0, 0, 0, 0, 0, 0, 0, 0, 0, 0] ∧
      t.vehicle = s.vehicle ∧ t.cmd = s.cmd ∧ t.arg0 = s.arg0 ∧ t.arg1 = s.arg1 ∧ t.feat = s.feat ∧
      t.ovr = s.ovr ∧ t.opok = s.opok

/-- R158: while the battery is critical every valid frame, of a known or an unknown command, is answered
BatteryNearEmpty after exactly one query; nothing of the command is done. On an invalid frame the vehicle is not asked and
OVR is not written. -/
def Obligations.OverrideAnswersEveryValidFrame : Prop :=
  ∀ s : State, s.phase = .idle →
    (validFrame s.rom s.pollBytes = true → s.nearEmptyAnswer = true →
      ∃ t, step s = .next t ∧ t.phase = .idle ∧ t.rsp = .batteryNearEmpty ∧ t.ovr = true ∧
        t.transport.sent = s.transport.sent ++ stamped s.rom [0x03, 0, 0, 0, 0, 0, 0, 0, 0, 0, 0, 0, 0, 0, 0] ∧
        t.vehicle = { s.vehicle with
          nearEmpty := s.vehicle.nearEmpty.advance, calls := s.vehicle.calls ++ [.answerBatteryNearEmpty] } ∧
        t.cmd = s.cmd ∧ t.arg0 = s.arg0 ∧ t.arg1 = s.arg1 ∧ t.res = s.res ∧ t.feat = s.feat ∧ t.opok = s.opok) ∧
    (validFrame s.rom s.pollBytes = false →
      ∃ t, step s = .next t ∧ t.phase = .idle ∧ t.vehicle = s.vehicle ∧ t.ovr = s.ovr)

/-- R160, R162: when the poll delivers a frame that decodes to `i` and the override answers false, the step is exec of `i`
in the state at the hand-over, and then exec of the response that the registers select. -/
def Obligations.StepRunsDecodedInstruction : Prop :=
  ∀ (s : State) (i : Instr), s.phase = .idle → decodeRequest s.rom s.pollBytes = .ok i → s.nearEmptyAnswer = false →
    step s = andThen (exec i (atCommand s)) (fun u => exec (responseOf u) u)

/-- Log 14, the model's choice: a step from State.withFetchWord runs the instruction the decoder reads from the word, then
its response. -/
def Obligations.FetchWordRunsItsInstruction : Prop :=
  ∀ (s : State) (nbits w : Nat) (i : Instr), decodeTableWord nbits w = some i →
    step (s.withFetchWord nbits w) =
      andThen (exec i { setOvr (s.withFetchWord nbits w) with cmd := (tableFrame nbits w).getD 0 0 })
        (fun u => exec (responseOf u) u)

/-- R150: the transition table, one clause a row: each phase goes on to the phase the table names and nothing else happens
on the way but what the row's rules set. -/
def Obligations.PhaseTransitions : Prop :=
  (∀ s : State, s.phase = .idle →
    (s.pollCount = 0 → ∃ t, step s = .next t ∧ t.phase = .idle) ∧
    (s.pollCount ≠ 0 → step s = step { poll s with nodata := false, phase := .validating })) ∧
  (∀ (s : State), s.phase = .validating →
    (s.rxlen.val ≠ 16 →
      step s = step { s with lenok := false, rsp := .error, res := 1, phase := .responding }) ∧
    (∀ d : List Byte, s.rxlen.val = 16 → s.rx = Memory.ofBytes d → d.length = 16 →
      (hasChecksum s.rom d = false → step s = step { s with
        lenok := true, crc := checksum s.rom (coveredBytes d), crcok := false,
        rsp := .error, res := 1, phase := .responding }) ∧
      (hasChecksum s.rom d = true → step s = step { s with
        lenok := true, crc := checksum s.rom (coveredBytes d), crcok := true, phase := .dispatching }))) ∧
  (∀ (s : State), s.phase = .dispatching →
    (s.nearEmptyAnswer = true → step s = step { s with
      ovr := true, vehicle := (callNearEmpty s).vehicle, rsp := .batteryNearEmpty, phase := .responding }) ∧
    (∀ d : List Byte, s.nearEmptyAnswer = false → s.rx = Memory.ofBytes d → d.length = 16 →
      ∃ i u, decodeCommand (byteOf d) = some i ∧ u.phase = .responding ∧
        exec i { s with ovr := false, vehicle := (callNearEmpty s).vehicle, cmd := d.getD 0 0 } = .next u ∧
        step s = step u)) ∧
  (∀ (s : State), s.phase = .responding → ∃ t, step s = .next t ∧ t.phase = .idle)

/-! ### The commands -/

/-- R181. -/
def Obligations.NoopAnswersOk : Prop :=
  (∀ rd : Nat → Option Byte, rd 0 = some 0x01 → decodeCommand rd = some .noop) ∧
  ∀ s : State, exec .noop s = .next { s with rsp := .ok, phase := .responding }

/-- R182. -/
def Obligations.GetProtocolVersionAnswersOne : Prop :=
  (∀ rd : Nat → Option Byte, rd 0 = some 0x02 → decodeCommand rd = some .getProtocolVersion) ∧
  ∀ s : State, exec .getProtocolVersion s = .next { s with res := 1, rsp := .protocolVersion, phase := .responding }

/-- R183. -/
def Obligations.GetFeaturesAsksTheVehicle : Prop :=
  (∀ rd : Nat → Option Byte, rd 0 = some 0x03 → decodeCommand rd = some .getFeatures) ∧
  ∀ s : State, exec .getFeatures s = .next { s with
    feat := s.featuresAnswer
    rsp := .features
    phase := .responding
    vehicle := { s.vehicle with
      features := s.vehicle.features.advance, calls := s.vehicle.calls ++ [.getFeatures] } }

/-- R184, both outcomes; the operand, −32768 among its values, is passed on unchanged. -/
def Obligations.TurnCarActuates : Prop :=
  (∀ (rd : Nat → Option Byte) (h l : Byte), rd 0 = some 0x04 → rd 1 = some h → rd 2 = some l →
    decodeCommand rd = some (.turnCar (i16OfBytes h l))) ∧
  ∀ (rotation : I16) (s : State),
    (s.turnCarAnswer = true → exec (.turnCar rotation) s = .next { s with
      arg0 := rotation
      opok := true
      rsp := .ok
      phase := .responding
      vehicle := { s.vehicle with
        turnCar := s.vehicle.turnCar.advance, calls := s.vehicle.calls ++ [.turnCar rotation] } }) ∧
    (s.turnCarAnswer = false → exec (.turnCar rotation) s = .next { s with
      arg0 := rotation
      opok := false
      rsp := .error
      res := 3
      phase := .responding
      vehicle := { s.vehicle with
        turnCar := s.vehicle.turnCar.advance, calls := s.vehicle.calls ++ [.turnCar rotation] } })

/-- R185, both outcomes. -/
def Obligations.AdjustSpeedActuates : Prop :=
  (∀ (rd : Nat → Option Byte) (h l : Byte), rd 0 = some 0x05 → rd 1 = some h → rd 2 = some l →
    decodeCommand rd = some (.adjustSpeed (i16OfBytes h l))) ∧
  ∀ (speed : I16) (s : State),
    (s.adjustSpeedAnswer = true → exec (.adjustSpeed speed) s = .next { s with
      arg0 := speed
      opok := true
      rsp := .ok
      phase := .responding
      vehicle := { s.vehicle with
        adjustSpeed := s.vehicle.adjustSpeed.advance, calls := s.vehicle.calls ++ [.adjustSpeed speed] } }) ∧
    (s.adjustSpeedAnswer = false → exec (.adjustSpeed speed) s = .next { s with
      arg0 := speed
      opok := false
      rsp := .error
      res := 3
      phase := .responding
      vehicle := { s.vehicle with
        adjustSpeed := s.vehicle.adjustSpeed.advance, calls := s.vehicle.calls ++ [.adjustSpeed speed] } })

/-- R186, both outcomes. -/
def Obligations.RotateCamActuates : Prop :=
  (∀ (rd : Nat → Option Byte) (h l h' l' : Byte), rd 0 = some 0x06 → rd 1 = some h → rd 2 = some l → rd 3 = some h' →
    rd 4 = some l' → decodeCommand rd = some (.rotateCam (i16OfBytes h l) (i16OfBytes h' l'))) ∧
  ∀ (pan tilt : I16) (s : State),
    (s.rotateCamAnswer = true → exec (.rotateCam pan tilt) s = .next { s with
      arg0 := pan
      arg1 := tilt
      opok := true
      rsp := .ok
      phase := .responding
      vehicle := { s.vehicle with
        rotateCam := s.vehicle.rotateCam.advance, calls := s.vehicle.calls ++ [.rotateCam pan tilt] } }) ∧
    (s.rotateCamAnswer = false → exec (.rotateCam pan tilt) s = .next { s with
      arg0 := pan
      arg1 := tilt
      opok := false
      rsp := .error
      res := 3
      phase := .responding
      vehicle := { s.vehicle with
        rotateCam := s.vehicle.rotateCam.advance, calls := s.vehicle.calls ++ [.rotateCam pan tilt] } })

/-- R187, both outcomes: a negative level is a failure, 0 is not. -/
def Obligations.GetBatteryStateReportsOrFails : Prop :=
  (∀ rd : Nat → Option Byte, rd 0 = some 0x07 → decodeCommand rd = some .getBatteryState) ∧
  ∀ s : State,
    (0 ≤ s.batteryStateAnswer.toInt → exec .getBatteryState s = .next { s with
      res := s.batteryStateAnswer
      opok := true
      rsp := .batteryState
      phase := .responding
      vehicle := { s.vehicle with
        batteryState := s.vehicle.batteryState.advance, calls := s.vehicle.calls ++ [.getBatteryState] } }) ∧
    (s.batteryStateAnswer.toInt < 0 → exec .getBatteryState s = .next { s with
      res := 3
      opok := false
      rsp := .error
      phase := .responding
      vehicle := { s.vehicle with
        batteryState := s.vehicle.batteryState.advance, calls := s.vehicle.calls ++ [.getBatteryState] } })

/-- R188: 0x00 and 0x08 to 0xFF are the unknown command, which raises Error UnknownCommand and calls nothing. -/
def Obligations.UnknownCommandRaisesError : Prop :=
  (∀ (rd : Nat → Option Byte) (c : Byte), rd 0 = some c → c = 0 ∨ 8 ≤ c.toNat →
    decodeCommand rd = some (.unknownCommand c)) ∧
  ∀ (cmd : Byte) (s : State),
    exec (.unknownCommand cmd) s = .next { s with rsp := .error, res := 2, phase := .responding }

/-- R180, R222 and the write columns of R22, R26: what a request leaves unchanged. The named exceptions are the registers
its rule writes. Every byte of both buffers reads as before. -/
def Obligations.RequestsChangeOnlyTheirRegisters : Prop :=
  ∀ (i : Instr) (s t : State), i.isRequest = true → exec i s = .next t →
    t.phase = .responding ∧ t.crc = s.crc ∧ t.rxlen = s.rxlen ∧ t.cmd = s.cmd ∧
    t.nodata = s.nodata ∧ t.lenok = s.lenok ∧ t.crcok = s.crcok ∧ t.ovr = s.ovr ∧
    t.rom = s.rom ∧ t.transport = s.transport ∧
    (∀ a, t.rx.read a = s.rx.read a) ∧ (∀ a, t.tx.read a = s.tx.read a) ∧
    (i ≠ .getFeatures → t.feat = s.feat) ∧
    ((∀ p q, i ≠ .rotateCam p q) → t.arg1 = s.arg1) ∧
    ((∀ p q, i ≠ .rotateCam p q) → (∀ r, i ≠ .turnCar r) → (∀ v, i ≠ .adjustSpeed v) → t.arg0 = s.arg0) ∧
    ((∀ p q, i ≠ .rotateCam p q) → (∀ r, i ≠ .turnCar r) → (∀ v, i ≠ .adjustSpeed v) → i ≠ .getBatteryState →
      t.opok = s.opok) ∧
    (i ≠ .getProtocolVersion → i ≠ .getBatteryState → t.rsp ≠ .error → t.res = s.res) ∧
    (t.rsp = .error → t.res = 2 ∨ t.res = 3)

/-! ### The responses -/

/-- R202, R210, R212: the frame of Ok is built, stamped and sent; CRC, TX, the sent bytes and PHASE change, nothing else. -/
def Obligations.OkFrame : Prop :=
  ∀ s : State, exec .ok s = .next (afterSending s
    (stamped s.rom [0x01, 0, 0, 0, 0, 0, 0, 0, 0, 0, 0, 0, 0, 0, 0]))

/-- R204, R88: the frame of Error, for every value, and the three frames the block sends. -/
def Obligations.ErrorFrame : Prop :=
  (∀ (v : I16) (s : State), exec (.error v) s = .next (afterSending s
    (stamped s.rom [0x02, v.extractLsb' 8 8, v.extractLsb' 0 8, 0, 0, 0, 0, 0, 0, 0, 0, 0, 0, 0, 0]))) ∧
  ∀ s : State,
    exec (.error (ErrorId.code .invalidCommand)) s = .next (afterSending s
      (stamped s.rom [0x02, 0x00, 0x01, 0, 0, 0, 0, 0, 0, 0, 0, 0, 0, 0, 0])) ∧
    exec (.error (ErrorId.code .unknownCommand)) s = .next (afterSending s
      (stamped s.rom [0x02, 0x00, 0x02, 0, 0, 0, 0, 0, 0, 0, 0, 0, 0, 0, 0])) ∧
    exec (.error (ErrorId.code .processCommandError)) s = .next (afterSending s
      (stamped s.rom [0x02, 0x00, 0x03, 0, 0, 0, 0, 0, 0, 0, 0, 0, 0, 0, 0]))

/-- R205: the frame of BatteryNearEmpty. -/
def Obligations.BatteryNearEmptyFrame : Prop :=
  ∀ s : State, exec .batteryNearEmpty s = .next (afterSending s
    (stamped s.rom [0x03, 0, 0, 0, 0, 0, 0, 0, 0, 0, 0, 0, 0, 0, 0]))

/-- R206: the frame of ProtocolVersion, for every value and for the constant. -/
def Obligations.ProtocolVersionFrame : Prop :=
  (∀ (v : I16) (s : State), exec (.protocolVersion v) s = .next (afterSending s
    (stamped s.rom [0x04, v.extractLsb' 8 8, v.extractLsb' 0 8, 0, 0, 0, 0, 0, 0, 0, 0, 0, 0, 0, 0]))) ∧
  ∀ s : State, exec (.protocolVersion Config.protocolVersion) s = .next (afterSending s
    (stamped s.rom [0x04, 0x00, 0x01, 0, 0, 0, 0, 0, 0, 0, 0, 0, 0, 0, 0]))

/-- R207: the frame of Features: the flags byte has bit 0 adjustableSpeed, bit 1 driveBackward, bit 2 batteryPower and no
other bit. -/
def Obligations.FeaturesFrame : Prop :=
  ∀ (f : CarFeatures) (s : State), ∃ flags : Byte,
    flags.toNat = (if f.adjustableSpeed then 1 else 0) + (if f.driveBackward then 2 else 0)
      + (if f.batteryPower then 4 else 0) ∧
    exec (.features f) s = .next (afterSending s (stamped s.rom
      [0x05, flags, hiByte f.panMin, loByte f.panMin, hiByte f.panMax, loByte f.panMax,
        hiByte f.tiltMin, loByte f.tiltMin, hiByte f.tiltMax, loByte f.tiltMax, 0, 0, 0, 0, 0]))

/-- R208: the frame of BatteryState, for every value; the high byte of a reported level is at most 0x7F. -/
def Obligations.BatteryStateFrame : Prop :=
  ∀ (v : I16) (s : State),
    exec (.batteryState v) s = .next (afterSending s
      (stamped s.rom [0x06, v.extractLsb' 8 8, v.extractLsb' 0 8, 0, 0, 0, 0, 0, 0, 0, 0, 0, 0, 0, 0])) ∧
    (0 ≤ v.toInt → (v.extractLsb' 8 8).toNat ≤ 0x7F)

/-- R200, R212: what a response leaves unchanged: every register but CRC and PHASE, all of RX, the ROM, the vehicle, and of
the transport everything but the sent bytes. It stores all 16 bytes of TX, and none outside the frame. -/
def Obligations.ResponsesChangeOnlyFrameAndPhase : Prop :=
  ∀ (i : Instr) (s t : State), i.isRequest = false → exec i s = .next t →
    t.phase = .idle ∧ t.rxlen = s.rxlen ∧ t.cmd = s.cmd ∧ t.arg0 = s.arg0 ∧ t.arg1 = s.arg1 ∧ t.res = s.res ∧
    t.feat = s.feat ∧ t.rsp = s.rsp ∧ t.nodata = s.nodata ∧ t.lenok = s.lenok ∧ t.crcok = s.crcok ∧ t.ovr = s.ovr ∧
    t.opok = s.opok ∧ t.rom = s.rom ∧ t.vehicle = s.vehicle ∧
    t.transport = { s.transport with sent := t.transport.sent } ∧
    (∀ a, t.rx.read a = s.rx.read a) ∧
    (∀ a, a < 16 → (t.tx.read a).isSome = true) ∧
    (∀ a, 16 ≤ a → s.tx.wf = true → t.tx.read a = s.tx.read a)

/-- R203, R92: the bytes after the payload are 0x00 and so are bits 7 to 3 of a flags byte; nothing of a previous
response, of RX or of any register shows through. -/
def Obligations.ResponsesAreZeroFilled : Prop :=
  ∀ (i : Instr) (r : ResponseId) (s : State), responseIdOf i = some r →
    ∃ t, exec i s = .next t ∧ t.tx.read 0 = some (BitVec.ofNat 8 r.id) ∧
      (∀ k, r.payloadLength < k → k ≤ 14 → t.tx.read k = some 0x00) ∧
      (r = .features → ∃ b, t.tx.read 1 = some b ∧ b.toNat < 8) ∧
      ∀ s' : State, s'.rom = s.rom → ∃ t', exec i s' = .next t' ∧ t'.tx = t.tx

/-- R210, R212: byte 15 of TX is the checksum of bytes 0 to 14, and the 16 bytes sent are those of TX in index order. -/
def Obligations.ResponsesAreStamped : Prop :=
  ∀ (i : Instr) (s : State), i.isRequest = false →
    ∃ t body, exec i s = .next t ∧ t.tx.bytes 0 15 = some body ∧
      t.tx.read 15 = some (checksum s.rom body) ∧
      ∃ sent, t.tx.bytes 0 16 = some sent ∧ t.transport.sent = s.transport.sent ++ sent ∧ t.phase = .idle

/-! ### Errors -/

/-- R224, R221: raising an Error sets RSP, RES and PHASE and nothing else; the encoder then sends its frame and the
invocation ends in Idle. -/
def Obligations.RaiseErrorSelectsItsResponse : Prop :=
  ErrorId.code .undefined = 0 ∧ ErrorId.code .invalidCommand = 1 ∧ ErrorId.code .unknownCommand = 2 ∧
  ErrorId.code .processCommandError = 3 ∧
  ∀ (e : ErrorId) (s : State),
    raiseError e s = { s with rsp := .error, res := e.code, phase := .responding } ∧
    step (raiseError e s) = .next (afterSending (raiseError e s)
      (stamped s.rom [0x02, 0x00, BitVec.ofNat 8 e.code.toNat, 0, 0, 0, 0, 0, 0, 0, 0, 0, 0, 0, 0]))

/-- R227, R85: what an invocation sends is nothing or one frame of 16 bytes whose byte 0 is in 1 to 6 and which is no Error
with payload 00 00. -/
def Obligations.UndefinedErrorIsNeverSent : Prop :=
  ∀ s : State, s.phase = .idle →
    ∃ t f, step s = .next t ∧ t.transport.sent = s.transport.sent ++ f ∧
      (f = [] ∨ ∃ b0 b1 b2 rest, f = b0 :: b1 :: b2 :: rest ∧ f.length = 16 ∧
        1 ≤ b0.toNat ∧ b0.toNat ≤ 6 ∧ ¬ (b0 = 0x02 ∧ b1 = 0x00 ∧ b2 = 0x00))

/-- A byte that no poll delivered holds no value and may not be read (R45, R152; log 9, the model's form of it): the
dispatcher stops on a frame without byte 0. No step from Idle does. -/
def Obligations.MissingCommandByteFaults : Prop :=
  (∀ s : State, s.phase = .dispatching → s.nearEmptyAnswer = false → s.rx.read 0 = none →
    step s = .fault .byteHoldsNoValue) ∧
  ∀ (s : State) (r : Fault), s.phase = .idle → step s ≠ .fault r

/-! ### Whole-machine statements -/

/-- R229, R164, R213: from Idle every invocation completes, and the bytes it sends and the calls it makes are those that the
poll result and the environment's answers decide, the first cause in the order of R229 winning. -/
def Obligations.ResponseIsAFunctionOfTheInputs : Prop :=
  ∀ s : State, s.phase = .idle →
    ∃ t, step s = .next t ∧ t.phase = .idle ∧
      t.transport.sent = s.transport.sent ++ replyBytes s.rom (answersOf s) s.pollBytes ∧
      t.vehicle.calls = s.vehicle.calls ++ callsTo s.rom (answersOf s) s.pollBytes

/-- R163, R68: one poll; one battery query for a valid frame and none otherwise; then at most the command's own call, with
its operands as they stand in the frame; one response of 16 bytes unless the poll was empty. -/
def Obligations.CallsAndResponsesPerInvocation : Prop :=
  ∀ s : State, s.phase = .idle →
    ∃ t, step s = .next t ∧
      t.vehicle.calls = s.vehicle.calls ++ callsTo s.rom (answersOf s) s.pollBytes ∧
      t.transport.polls = s.transport.polls.advance ∧
      t.transport.sent.length = s.transport.sent.length + (if s.pollBytes = [] then 0 else 16) ∧
      (callsTo s.rom (answersOf s) s.pollBytes).length ≤ 2

/-- R69, R62: RX holds what the one poll delivered until the invocation ends, and the bytes behind them wait for a later
poll. -/
def Obligations.RequestIsCapturedByOnePoll : Prop :=
  ∀ s : State, s.phase = .idle →
    ∃ t, step s = .next t ∧ (∀ a, t.rx.read a = s.pollBytes[a]?) ∧
      s.transport.queue = s.pollBytes ++ t.transport.queue

/-- R159, R253, R255: the bytes of a short read are gone and answered: the next invocation takes the bytes after them as a
new frame, and answers again if that read is short too. -/
def Obligations.ShortReadsAreLostAndAnswered : Prop :=
  ∀ s : State, s.phase = .idle → s.pollBytes ≠ [] → s.pollBytes.length < 16 →
    ∃ t, step s = .next t ∧ s.transport.queue = s.pollBytes ++ t.transport.queue ∧
      t.transport.sent = s.transport.sent ++ stamped s.rom [0x02, 0x00, 0x01, 0, 0, 0, 0, 0, 0, 0, 0, 0, 0, 0, 0] ∧
      (t.pollBytes ≠ [] → t.pollBytes.length < 16 → ∃ u, step t = .next u ∧
        u.transport.sent = s.transport.sent
          ++ stamped s.rom [0x02, 0x00, 0x01, 0, 0, 0, 0, 0, 0, 0, 0, 0, 0, 0, 0]
          ++ stamped s.rom [0x02, 0x00, 0x01, 0, 0, 0, 0, 0, 0, 0, 0, 0, 0, 0, 0])

/-- From Idle a step always answers a next state, and every next state has PHASE = Idle. R151 gives termination only
'provided each port transaction returns'. The statement has no such premise: that every capability call returns (log 20,
DEDUCED) and every transmit completes (log 19, DESIGN CHOICE) is the model's. -/
def Obligations.InvocationEndsInIdle : Prop :=
  (∀ s : State, s.phase = .idle → ∃ t, step s = .next t ∧ t.phase = .idle) ∧
  ∀ s t : State, step s = .next t → t.phase = .idle

/-- From Idle no number of invocations faults, refuses or halts (R220, R232, R252). That no transmit blocks (log 19, DESIGN
CHOICE) and that every capability call returns (log 20, DEDUCED) is the model's: of a device in which one does not, the
statement would be false. -/
def Obligations.RunsFromIdleNeverStop : Prop := ∀ s : State, s.phase = .idle → SafeRun s

/-- R20, R260, R250: nothing carries over. Two states in Idle that agree on the ROM, the transport and the vehicle, whatever
the block's registers, signals and buffers hold, send the same bytes and make the same calls over any number of
invocations. -/
def Obligations.NothingCarriesOverBetweenInvocations : Prop :=
  ∀ (k : Nat) (s t : State), s.phase = .idle → t.phase = .idle → SameOutside s t →
    ∃ s' t', core.run k s = .next s' ∧ core.run k t = .next t' ∧ SameOutside s' t'

/-- No step writes the checksum ROM (R30, R33), and none writes the transport's connectivity flag. The second clause is the
model's choice (log 13, DESIGN CHOICE, unsafe): R40 says only that the transport owns the flag. -/
def Obligations.StepsNeverWriteTheRom : Prop :=
  ∀ s t : State, step s = .next t → t.rom = s.rom ∧ t.transport.connected = s.transport.connected

/-- The buffers stay in canonical form: rising indices inside the 16-byte frame (R35, R50). -/
def Obligations.StepsKeepBuffersCanonical : Prop :=
  ∀ s t : State, BuffersCanonical s → step s = .next t → BuffersCanonical t

/-- R210, R212, R227: all that the block has ever sent is a sequence of whole frames of legal responses, each with its
checksum; every step from Idle keeps this and ends in Idle. -/
def Obligations.StepsKeepSentStreamLegal : Prop :=
  ∀ s t : State, QuietAndLegal s → step s = .next t → QuietAndLegal t

/-- Both invariants hold after reset. That nothing has been sent by then is the model's choice (log 21). -/
def Obligations.ResetMeetsTheInvariants : Prop := QuietAndLegal State.reset ∧ BuffersCanonical State.reset

/-- R45, R250: after reset PHASE is Idle and no byte of RX or TX holds a value. The registers' reset values are the model's
choice (logs 6 to 8) and no part of this statement. -/
def Obligations.ResetIsIdleWithEmptyBuffers : Prop :=
  State.reset.phase = .idle ∧ ∀ a, State.reset.rx.read a = none ∧ State.reset.tx.read a = none
end

