-- ==== Sys2Proof/Laws/Codec.lean ====
section
/-! SUPPORT. The laws of the codec on bytes: 16-bit fields, the flags byte, and when a request decodes. -/

namespace Sys2Proof

@[simp] theorem i16OfBytes_hi_lo (v : I16) : i16OfBytes (hiByte v) (loByte v) = v := by
  simp only [i16OfBytes, hiByte, loByte]
  ext k hk
  simp only [BitVec.getElem_append, BitVec.getElem_extractLsb']
  split
  · simp [BitVec.getLsbD_eq_getElem hk]
  · rw [show 8 + (k - 8) = k by omega, BitVec.getLsbD_eq_getElem hk]

@[simp] theorem hiByte_i16OfBytes (h l : Byte) : hiByte (i16OfBytes h l) = h := by
  simp only [i16OfBytes, hiByte]
  ext k hk
  simp only [BitVec.getElem_extractLsb', BitVec.getLsbD_append]
  rw [if_neg (by omega), show 8 + k - 8 = k by omega, BitVec.getLsbD_eq_getElem hk]

@[simp] theorem loByte_i16OfBytes (h l : Byte) : loByte (i16OfBytes h l) = l := by
  simp only [i16OfBytes, loByte]
  ext k hk
  simp only [BitVec.getElem_extractLsb', BitVec.getLsbD_append]
  rw [if_pos (by omega), Nat.zero_add, BitVec.getLsbD_eq_getElem hk]

/-- The value of two bytes is 256 times the high byte plus the low byte (R86). -/
theorem i16OfBytes_toNat (h l : Byte) : (i16OfBytes h l).toNat = h.toNat * 256 + l.toNat := by
  simp only [i16OfBytes, BitVec.toNat_append]
  rw [← Nat.shiftLeft_add_eq_or_of_lt l.isLt, Nat.shiftLeft_eq]

theorem decodeI16_some {rd : Nat → Option Byte} {plen o : Nat} {inside : InPayload plen o} {h l : Byte}
    (hh : rd (1 + o) = some h) (hl : rd (2 + o) = some l) :
    decodeI16 rd plen o inside = some (i16OfBytes h l) := by
  simp only [decodeI16, hh, hl]

/-- The flags byte of each of the eight combinations of booleans. -/
theorem flagsByte_bits (f : CarFeatures) :
    (flagsByte f).getLsbD 0 = f.adjustableSpeed ∧ (flagsByte f).getLsbD 1 = f.driveBackward ∧
      (flagsByte f).getLsbD 2 = f.batteryPower ∧ (flagsByte f).toNat < 8 := by
  simp only [flagsByte]
  cases f.adjustableSpeed <;> cases f.driveBackward <;> cases f.batteryPower <;> decide

/-- Sixteen bytes, by name. -/
theorem sixteen_bytes (d : List Byte) (h : d.length = 16) :
    ∃ b0 b1 b2 b3 b4 b5 b6 b7 b8 b9 b10 b11 b12 b13 b14 b15 : Byte,
      d = [b0, b1, b2, b3, b4, b5, b6, b7, b8, b9, b10, b11, b12, b13, b14, b15] := by
  refine ⟨d[0], d[1], d[2], d[3], d[4], d[5], d[6], d[7], d[8], d[9], d[10], d[11], d[12], d[13], d[14], d[15], ?_⟩
  apply List.ext_getElem
  · simp [h]
  · intro k h1 h2
    rw [h] at h1
    interval_cases k <;> rfl

/-- The four ways a request decodes, by its byte 0. -/
theorem decodeArm_cases (cmd : Byte) (rd : Nat → Option Byte) :
    (CommandId.ofByte cmd = none ∧ decodeArm cmd rd = some (.unknownCommand cmd)) ∨
    (∃ c, CommandId.ofByte cmd = some c ∧ c.payloadLength = 0 ∧
      ∃ i, i.isRequest = true ∧ wellFormed i = true ∧ ∀ rd', decodeArm cmd rd' = some i) ∨
    (∃ c, CommandId.ofByte cmd = some c ∧ c.payloadLength = 2 ∧
      ∃ mk : I16 → Instr, (∀ v, (mk v).isRequest = true ∧ wellFormed (mk v) = true) ∧
        ∀ rd', decodeArm cmd rd' = (decodeI16 rd' 2 0 (by decide)).map mk) ∨
    (CommandId.ofByte cmd = some .rotateCam) := by
  cases h : CommandId.ofByte cmd with
  | none => exact .inl ⟨rfl, by simp only [decodeArm, h]⟩
  | some c =>
    cases c
    · exact .inr (.inl ⟨_, rfl, rfl, .noop, rfl, rfl, fun rd' => by simp only [decodeArm, h]⟩)
    · exact .inr (.inl ⟨_, rfl, rfl, .getProtocolVersion, rfl, rfl, fun rd' => by simp only [decodeArm, h]⟩)
    · exact .inr (.inl ⟨_, rfl, rfl, .getFeatures, rfl, rfl, fun rd' => by simp only [decodeArm, h]⟩)
    · exact .inr (.inr (.inl ⟨_, rfl, rfl, .turnCar, fun _ => ⟨rfl, rfl⟩, fun rd' => by simp only [decodeArm, h]; rfl⟩))
    · exact .inr (.inr (.inl ⟨_, rfl, rfl, .adjustSpeed, fun _ => ⟨rfl, rfl⟩,
        fun rd' => by simp only [decodeArm, h]; rfl⟩))
    · exact .inr (.inr (.inr rfl))
    · exact .inr (.inl ⟨_, rfl, rfl, .getBatteryState, rfl, rfl, fun rd' => by simp only [decodeArm, h]⟩)

/-- The multiplexer reads no byte of a frame behind byte 4 (R83, R180). -/
theorem decodeArm_congr {rd rd' : Nat → Option Byte} (h : ∀ k, 1 ≤ k → k ≤ 4 → rd k = rd' k) (c : Byte) :
    decodeArm c rd = decodeArm c rd' := by
  simp only [decodeArm, decodeI16, Nat.reduceAdd, Nat.add_zero, h 1 (by omega) (by omega), h 2 (by omega) (by omega),
    h 3 (by omega) (by omega), h 4 (by omega) (by omega)]

theorem decodeCommand_congr {rd rd' : Nat → Option Byte} (h : ∀ k, k ≤ 4 → rd k = rd' k) :
    decodeCommand rd = decodeCommand rd' := by
  simp only [decodeCommand, h 0 (by omega), decodeArm_congr (fun k _ hk => h k hk)]

/-- Stamping another last byte changes nothing of what a frame decodes to. -/
theorem decodeCommand_covered (d : List Byte) (hd : d.length = 16) (c : Byte) :
    decodeCommand (byteOf (coveredBytes d ++ [c])) = decodeCommand (byteOf d) := by
  apply decodeCommand_congr
  intro k hk
  simp only [byteOf, coveredBytes]
  rw [List.getElem?_append_left (by simp [hd]; omega), List.getElem?_take_of_lt (by omega)]

/-- Sixteen bytes always decode to a command (R82, R90). -/
theorem decodeCommand_of_sixteen (d : List Byte) (h : d.length = 16) :
    ∃ i, decodeCommand (byteOf d) = some i ∧ decodeArm (d.getD 0 0) (byteOf d) = some i := by
  obtain ⟨b0, b1, b2, b3, b4, b5, b6, b7, b8, b9, b10, b11, b12, b13, b14, b15, rfl⟩ := sixteen_bytes d h
  suffices ∃ i, decodeArm b0 (byteOf [b0, b1, b2, b3, b4, b5, b6, b7, b8, b9, b10, b11, b12, b13, b14, b15]) = some i by
    obtain ⟨i, hi⟩ := this
    exact ⟨i, hi, hi⟩
  simp only [decodeArm]
  split <;> exact ⟨_, rfl⟩

end Sys2Proof
end

