-- ==== Sys2Proof/Laws/Memory.lean ====
section
/-! SUPPORT. The laws of the frame buffers: a read after a write, the canonical form, and buffers made of a byte list. -/

namespace Sys2Proof.Machine

@[simp] theorem read_nil (a : Nat) : Memory.read [] a = none := rfl

theorem read_cons (k : Nat) (v : Byte) (m : Memory) (a : Nat) :
    Memory.read ((k, v) :: m) a = if k = a then some v else Memory.read m a := rfl

/-- A read after a write to the same index gives the value written, and a write leaves every other index alone. -/
theorem read_write (m : Memory) (a a' : Nat) (b : Byte) :
    (m.write a b).read a' = if a = a' then some b else m.read a' := by
  induction m with
  | nil => rfl
  | cons kv m ih =>
    obtain ⟨k, v⟩ := kv
    by_cases h1 : a < k
    · simp [Memory.write, h1, read_cons]
    · by_cases h2 : a = k
      · subst h2
        by_cases h3 : a = a' <;> simp [Memory.write, read_cons, h3]
      · have hw : Memory.write ((k, v) :: m) a b = (k, v) :: Memory.write m a b := by simp [Memory.write, h1, h2]
        rw [hw, read_cons, read_cons, ih]
        by_cases h3 : k = a'
        · have : a ≠ a' := by omega
          simp [h3, this]
        · simp [h3]

@[simp] theorem read_write_same (m : Memory) (a : Nat) (b : Byte) : (m.write a b).read a = some b := by
  simp [read_write]

theorem read_write_other (m : Memory) {a a' : Nat} (b : Byte) (h : a ≠ a') : (m.write a b).read a' = m.read a' := by
  simp [read_write, h]

/-- The canonical form from a higher index on is the canonical form from a lower one on. -/
theorem wfFrom_mono {lo lo' : Nat} (h : lo' ≤ lo) : ∀ {m : Memory}, Memory.wfFrom lo m = true → Memory.wfFrom lo' m = true
  | [], _ => rfl
  | (_, _) :: _, hm => by
    simp only [Memory.wfFrom, Bool.and_eq_true, decide_eq_true_eq] at hm ⊢
    exact ⟨⟨by omega, hm.1.2⟩, hm.2⟩

theorem wfFrom_write (a : Nat) (b : Byte) (ha : a < 16) :
    ∀ (m : Memory) (lo : Nat), lo ≤ a → Memory.wfFrom lo m = true → Memory.wfFrom lo (m.write a b) = true
  | [], lo, hlo, _ => by simp [Memory.write, Memory.wfFrom, hlo, ha]
  | (k, v) :: m, lo, hlo, hm => by
    simp only [Memory.wfFrom, Bool.and_eq_true, decide_eq_true_eq] at hm
    by_cases h1 : a < k
    · simp only [Memory.write, h1, if_true, Memory.wfFrom, Bool.and_eq_true, decide_eq_true_eq]
      exact ⟨⟨hlo, ha⟩, ⟨by omega, hm.1.2⟩, hm.2⟩
    · by_cases h2 : a = k
      · subst h2
        simp only [Memory.write, Nat.lt_irrefl, if_false, if_true, Memory.wfFrom, Bool.and_eq_true, decide_eq_true_eq]
        exact ⟨⟨hlo, ha⟩, hm.2⟩
      · simp only [Memory.write, h1, h2, if_false, Memory.wfFrom, Bool.and_eq_true, decide_eq_true_eq]
        exact ⟨hm.1, wfFrom_write a b ha m (k + 1) (by omega) hm.2⟩

/-- A write inside the frame keeps the canonical form. -/
theorem wf_write {m : Memory} {a : Nat} (b : Byte) (ha : a < 16) (h : m.wf = true) : (m.write a b).wf = true :=
  wfFrom_write a b ha m 0 (Nat.zero_le a) h

theorem wf_nil : Memory.wf [] = true := rfl

theorem wf_memWrite1 {m : Memory} (i : Fin 16) (v : Byte) (h : m.wf = true) : (memWrite1 m i v).wf = true :=
  wf_write v i.isLt h

theorem wf_memWrite2 {m : Memory} (i : Fin 15) (v : BitVec 16) (h : m.wf = true) : (memWrite2 m i v).wf = true :=
  wf_write _ (by omega) (wf_write _ (by omega) h)

theorem wf_zeroFill : ∀ (n : Nat) {m : Memory} (i : Nat), i + n ≤ 16 → m.wf = true → (zeroFill m i n).wf = true
  | 0, _, _, _, h => h
  | n + 1, _, i, hi, h => wf_zeroFill n (i + 1) (by omega) (wf_write 0 (by omega) h)

theorem wf_encodeI16 (v : I16) {F : Memory} (plen o : Nat) (inside : InPayload plen o) (h : F.wf = true) :
    (encodeI16 v F plen o inside).wf = true := wf_memWrite2 _ _ h

theorem wfFrom_ofBytesFrom : ∀ (bytes : List Byte) (i : Nat), i + bytes.length ≤ 16 →
    Memory.wfFrom i (Memory.ofBytesFrom i bytes) = true
  | [], _, _ => rfl
  | _ :: rest, i, h => by
    simp only [List.length_cons] at h
    simp only [Memory.ofBytesFrom, Memory.wfFrom, Bool.and_eq_true, decide_eq_true_eq]
    exact ⟨⟨Nat.le_refl i, by omega⟩, wfFrom_ofBytesFrom rest (i + 1) (by omega)⟩

/-- A buffer made of at most 16 bytes is in canonical form. -/
theorem wf_ofBytes (bytes : List Byte) (h : bytes.length ≤ 16) : (Memory.ofBytes bytes).wf = true :=
  wfFrom_ofBytesFrom bytes 0 (by omega)

theorem read_ofBytesFrom : ∀ (bytes : List Byte) (i a : Nat), (Memory.ofBytesFrom i bytes).read (i + a) = bytes[a]?
  | [], _, _ => rfl
  | b :: rest, i, 0 => by simp [Memory.ofBytesFrom, read_cons]
  | b :: rest, i, a + 1 => by
    have h : i + (a + 1) = (i + 1) + a := by omega
    simp only [Memory.ofBytesFrom, read_cons, List.getElem?_cons_succ]
    rw [if_neg (by omega), h, read_ofBytesFrom rest (i + 1) a]

/-- A buffer made of a byte list reads as the list, and holds no value past its end. -/
@[simp] theorem read_ofBytes (bytes : List Byte) (a : Nat) : (Memory.ofBytes bytes).read a = bytes[a]? := by
  simpa [Memory.ofBytes] using read_ofBytesFrom bytes 0 a

theorem read_ofBytes_eq_byteOf (bytes : List Byte) : (Memory.ofBytes bytes).read = byteOf bytes := by
  funext a; simp [byteOf]

/-- Reading `n` listed bytes in a row gives that stretch of the list. -/
theorem bytes_ofBytes (bytes : List Byte) : ∀ (n i : Nat), i + n ≤ bytes.length →
    (Memory.ofBytes bytes).bytes i n = some ((bytes.drop i).take n)
  | 0, _, _ => by simp [Memory.bytes]
  | n + 1, i, h => by
    have hi : i < bytes.length := by omega
    simp only [Memory.bytes, read_ofBytes, List.getElem?_eq_getElem hi, bytes_ofBytes bytes n (i + 1) (by omega)]
    rw [List.drop_eq_getElem_cons hi, List.take_succ_cons]

end Sys2Proof.Machine
end

