-- ==== Sys2Proof/Laws/State.lean ====
section
/-! SUPPORT. One lemma per field of State per named update, each true by rfl: later proofs cite them and never unfold a
record update. -/

namespace Sys2Proof.Machine

/-! ### answer -/

@[simp] theorem answer_phase (r : ResponseId) (s : State) : (answer r s).phase = .responding := rfl
@[simp] theorem answer_crc (r : ResponseId) (s : State) : (answer r s).crc = s.crc := rfl
@[simp] theorem answer_rxlen (r : ResponseId) (s : State) : (answer r s).rxlen = s.rxlen := rfl
@[simp] theorem answer_cmd (r : ResponseId) (s : State) : (answer r s).cmd = s.cmd := rfl
@[simp] theorem answer_arg0 (r : ResponseId) (s : State) : (answer r s).arg0 = s.arg0 := rfl
@[simp] theorem answer_arg1 (r : ResponseId) (s : State) : (answer r s).arg1 = s.arg1 := rfl
@[simp] theorem answer_res (r : ResponseId) (s : State) : (answer r s).res = s.res := rfl
@[simp] theorem answer_feat (r : ResponseId) (s : State) : (answer r s).feat = s.feat := rfl
@[simp] theorem answer_rsp (r : ResponseId) (s : State) : (answer r s).rsp = r := rfl
@[simp] theorem answer_nodata (r : ResponseId) (s : State) : (answer r s).nodata = s.nodata := rfl
@[simp] theorem answer_lenok (r : ResponseId) (s : State) : (answer r s).lenok = s.lenok := rfl
@[simp] theorem answer_crcok (r : ResponseId) (s : State) : (answer r s).crcok = s.crcok := rfl
@[simp] theorem answer_ovr (r : ResponseId) (s : State) : (answer r s).ovr = s.ovr := rfl
@[simp] theorem answer_opok (r : ResponseId) (s : State) : (answer r s).opok = s.opok := rfl
@[simp] theorem answer_rx (r : ResponseId) (s : State) : (answer r s).rx = s.rx := rfl
@[simp] theorem answer_tx (r : ResponseId) (s : State) : (answer r s).tx = s.tx := rfl
@[simp] theorem answer_rom (r : ResponseId) (s : State) : (answer r s).rom = s.rom := rfl
@[simp] theorem answer_transport (r : ResponseId) (s : State) : (answer r s).transport = s.transport := rfl
@[simp] theorem answer_vehicle (r : ResponseId) (s : State) : (answer r s).vehicle = s.vehicle := rfl

/-! ### raiseError -/

@[simp] theorem raiseError_phase (e : ErrorId) (s : State) : (raiseError e s).phase = .responding := rfl
@[simp] theorem raiseError_crc (e : ErrorId) (s : State) : (raiseError e s).crc = s.crc := rfl
@[simp] theorem raiseError_rxlen (e : ErrorId) (s : State) : (raiseError e s).rxlen = s.rxlen := rfl
@[simp] theorem raiseError_cmd (e : ErrorId) (s : State) : (raiseError e s).cmd = s.cmd := rfl
@[simp] theorem raiseError_arg0 (e : ErrorId) (s : State) : (raiseError e s).arg0 = s.arg0 := rfl
@[simp] theorem raiseError_arg1 (e : ErrorId) (s : State) : (raiseError e s).arg1 = s.arg1 := rfl
@[simp] theorem raiseError_res (e : ErrorId) (s : State) : (raiseError e s).res = e.code := rfl
@[simp] theorem raiseError_feat (e : ErrorId) (s : State) : (raiseError e s).feat = s.feat := rfl
@[simp] theorem raiseError_rsp (e : ErrorId) (s : State) : (raiseError e s).rsp = .error := rfl
@[simp] theorem raiseError_nodata (e : ErrorId) (s : State) : (raiseError e s).nodata = s.nodata := rfl
@[simp] theorem raiseError_lenok (e : ErrorId) (s : State) : (raiseError e s).lenok = s.lenok := rfl
@[simp] theorem raiseError_crcok (e : ErrorId) (s : State) : (raiseError e s).crcok = s.crcok := rfl
@[simp] theorem raiseError_ovr (e : ErrorId) (s : State) : (raiseError e s).ovr = s.ovr := rfl
@[simp] theorem raiseError_opok (e : ErrorId) (s : State) : (raiseError e s).opok = s.opok := rfl
@[simp] theorem raiseError_rx (e : ErrorId) (s : State) : (raiseError e s).rx = s.rx := rfl
@[simp] theorem raiseError_tx (e : ErrorId) (s : State) : (raiseError e s).tx = s.tx := rfl
@[simp] theorem raiseError_rom (e : ErrorId) (s : State) : (raiseError e s).rom = s.rom := rfl
@[simp] theorem raiseError_transport (e : ErrorId) (s : State) : (raiseError e s).transport = s.transport := rfl
@[simp] theorem raiseError_vehicle (e : ErrorId) (s : State) : (raiseError e s).vehicle = s.vehicle := rfl

/-! ### overrideWithNearEmpty -/

@[simp] theorem overrideWithNearEmpty_phase (s : State) : (overrideWithNearEmpty s).phase = .responding := rfl
@[simp] theorem overrideWithNearEmpty_crc (s : State) : (overrideWithNearEmpty s).crc = s.crc := rfl
@[simp] theorem overrideWithNearEmpty_rxlen (s : State) : (overrideWithNearEmpty s).rxlen = s.rxlen := rfl
@[simp] theorem overrideWithNearEmpty_cmd (s : State) : (overrideWithNearEmpty s).cmd = s.cmd := rfl
@[simp] theorem overrideWithNearEmpty_arg0 (s : State) : (overrideWithNearEmpty s).arg0 = s.arg0 := rfl
@[simp] theorem overrideWithNearEmpty_arg1 (s : State) : (overrideWithNearEmpty s).arg1 = s.arg1 := rfl
@[simp] theorem overrideWithNearEmpty_res (s : State) : (overrideWithNearEmpty s).res = s.res := rfl
@[simp] theorem overrideWithNearEmpty_feat (s : State) : (overrideWithNearEmpty s).feat = s.feat := rfl
@[simp] theorem overrideWithNearEmpty_rsp (s : State) : (overrideWithNearEmpty s).rsp = .batteryNearEmpty := rfl
@[simp] theorem overrideWithNearEmpty_nodata (s : State) : (overrideWithNearEmpty s).nodata = s.nodata := rfl
@[simp] theorem overrideWithNearEmpty_lenok (s : State) : (overrideWithNearEmpty s).lenok = s.lenok := rfl
@[simp] theorem overrideWithNearEmpty_crcok (s : State) : (overrideWithNearEmpty s).crcok = s.crcok := rfl
@[simp] theorem overrideWithNearEmpty_ovr (s : State) : (overrideWithNearEmpty s).ovr = s.ovr := rfl
@[simp] theorem overrideWithNearEmpty_opok (s : State) : (overrideWithNearEmpty s).opok = s.opok := rfl
@[simp] theorem overrideWithNearEmpty_rx (s : State) : (overrideWithNearEmpty s).rx = s.rx := rfl
@[simp] theorem overrideWithNearEmpty_tx (s : State) : (overrideWithNearEmpty s).tx = s.tx := rfl
@[simp] theorem overrideWithNearEmpty_rom (s : State) : (overrideWithNearEmpty s).rom = s.rom := rfl
@[simp] theorem overrideWithNearEmpty_transport (s : State) : (overrideWithNearEmpty s).transport = s.transport := rfl
@[simp] theorem overrideWithNearEmpty_vehicle (s : State) : (overrideWithNearEmpty s).vehicle = s.vehicle := rfl

/-! ### returnToIdle -/

@[simp] theorem returnToIdle_phase (s : State) : (returnToIdle s).phase = .idle := rfl
@[simp] theorem returnToIdle_crc (s : State) : (returnToIdle s).crc = s.crc := rfl
@[simp] theorem returnToIdle_rxlen (s : State) : (returnToIdle s).rxlen = s.rxlen := rfl
@[simp] theorem returnToIdle_cmd (s : State) : (returnToIdle s).cmd = s.cmd := rfl
@[simp] theorem returnToIdle_arg0 (s : State) : (returnToIdle s).arg0 = s.arg0 := rfl
@[simp] theorem returnToIdle_arg1 (s : State) : (returnToIdle s).arg1 = s.arg1 := rfl
@[simp] theorem returnToIdle_res (s : State) : (returnToIdle s).res = s.res := rfl
@[simp] theorem returnToIdle_feat (s : State) : (returnToIdle s).feat = s.feat := rfl
@[simp] theorem returnToIdle_rsp (s : State) : (returnToIdle s).rsp = s.rsp := rfl
@[simp] theorem returnToIdle_nodata (s : State) : (returnToIdle s).nodata = s.nodata := rfl
@[simp] theorem returnToIdle_lenok (s : State) : (returnToIdle s).lenok = s.lenok := rfl
@[simp] theorem returnToIdle_crcok (s : State) : (returnToIdle s).crcok = s.crcok := rfl
@[simp] theorem returnToIdle_ovr (s : State) : (returnToIdle s).ovr = s.ovr := rfl
@[simp] theorem returnToIdle_opok (s : State) : (returnToIdle s).opok = s.opok := rfl
@[simp] theorem returnToIdle_rx (s : State) : (returnToIdle s).rx = s.rx := rfl
@[simp] theorem returnToIdle_tx (s : State) : (returnToIdle s).tx = s.tx := rfl
@[simp] theorem returnToIdle_rom (s : State) : (returnToIdle s).rom = s.rom := rfl
@[simp] theorem returnToIdle_transport (s : State) : (returnToIdle s).transport = s.transport := rfl
@[simp] theorem returnToIdle_vehicle (s : State) : (returnToIdle s).vehicle = s.vehicle := rfl

/-! ### poll -/

@[simp] theorem poll_phase (s : State) : (poll s).phase = s.phase := rfl
@[simp] theorem poll_crc (s : State) : (poll s).crc = s.crc := rfl
@[simp] theorem poll_rxlen (s : State) : (poll s).rxlen = s.pollCount := rfl
@[simp] theorem poll_cmd (s : State) : (poll s).cmd = s.cmd := rfl
@[simp] theorem poll_arg0 (s : State) : (poll s).arg0 = s.arg0 := rfl
@[simp] theorem poll_arg1 (s : State) : (poll s).arg1 = s.arg1 := rfl
@[simp] theorem poll_res (s : State) : (poll s).res = s.res := rfl
@[simp] theorem poll_feat (s : State) : (poll s).feat = s.feat := rfl
@[simp] theorem poll_rsp (s : State) : (poll s).rsp = s.rsp := rfl
@[simp] theorem poll_nodata (s : State) : (poll s).nodata = s.nodata := rfl
@[simp] theorem poll_lenok (s : State) : (poll s).lenok = s.lenok := rfl
@[simp] theorem poll_crcok (s : State) : (poll s).crcok = s.crcok := rfl
@[simp] theorem poll_ovr (s : State) : (poll s).ovr = s.ovr := rfl
@[simp] theorem poll_opok (s : State) : (poll s).opok = s.opok := rfl
@[simp] theorem poll_rx (s : State) : (poll s).rx = Memory.ofBytes s.pollBytes := rfl
@[simp] theorem poll_tx (s : State) : (poll s).tx = s.tx := rfl
@[simp] theorem poll_rom (s : State) : (poll s).rom = s.rom := rfl
@[simp] theorem poll_transport (s : State) : (poll s).transport = { s.transport with queue := s.transport.queue.drop s.pollCount.val, polls := s.transport.polls.advance } := rfl
@[simp] theorem poll_vehicle (s : State) : (poll s).vehicle = s.vehicle := rfl

/-! ### setNoData -/

@[simp] theorem setNoData_phase (s : State) : (setNoData s).phase = s.phase := rfl
@[simp] theorem setNoData_crc (s : State) : (setNoData s).crc = s.crc := rfl
@[simp] theorem setNoData_rxlen (s : State) : (setNoData s).rxlen = s.rxlen := rfl
@[simp] theorem setNoData_cmd (s : State) : (setNoData s).cmd = s.cmd := rfl
@[simp] theorem setNoData_arg0 (s : State) : (setNoData s).arg0 = s.arg0 := rfl
@[simp] theorem setNoData_arg1 (s : State) : (setNoData s).arg1 = s.arg1 := rfl
@[simp] theorem setNoData_res (s : State) : (setNoData s).res = s.res := rfl
@[simp] theorem setNoData_feat (s : State) : (setNoData s).feat = s.feat := rfl
@[simp] theorem setNoData_rsp (s : State) : (setNoData s).rsp = s.rsp := rfl
@[simp] theorem setNoData_nodata (s : State) : (setNoData s).nodata = decide (s.rxlen = 0) := rfl
@[simp] theorem setNoData_lenok (s : State) : (setNoData s).lenok = s.lenok := rfl
@[simp] theorem setNoData_crcok (s : State) : (setNoData s).crcok = s.crcok := rfl
@[simp] theorem setNoData_ovr (s : State) : (setNoData s).ovr = s.ovr := rfl
@[simp] theorem setNoData_opok (s : State) : (setNoData s).opok = s.opok := rfl
@[simp] theorem setNoData_rx (s : State) : (setNoData s).rx = s.rx := rfl
@[simp] theorem setNoData_tx (s : State) : (setNoData s).tx = s.tx := rfl
@[simp] theorem setNoData_rom (s : State) : (setNoData s).rom = s.rom := rfl
@[simp] theorem setNoData_transport (s : State) : (setNoData s).transport = s.transport := rfl
@[simp] theorem setNoData_vehicle (s : State) : (setNoData s).vehicle = s.vehicle := rfl

/-! ### setLenOk -/

@[simp] theorem setLenOk_phase (s : State) : (setLenOk s).phase = s.phase := rfl
@[simp] theorem setLenOk_crc (s : State) : (setLenOk s).crc = s.crc := rfl
@[simp] theorem setLenOk_rxlen (s : State) : (setLenOk s).rxlen = s.rxlen := rfl
@[simp] theorem setLenOk_cmd (s : State) : (setLenOk s).cmd = s.cmd := rfl
@[simp] theorem setLenOk_arg0 (s : State) : (setLenOk s).arg0 = s.arg0 := rfl
@[simp] theorem setLenOk_arg1 (s : State) : (setLenOk s).arg1 = s.arg1 := rfl
@[simp] theorem setLenOk_res (s : State) : (setLenOk s).res = s.res := rfl
@[simp] theorem setLenOk_feat (s : State) : (setLenOk s).feat = s.feat := rfl
@[simp] theorem setLenOk_rsp (s : State) : (setLenOk s).rsp = s.rsp := rfl
@[simp] theorem setLenOk_nodata (s : State) : (setLenOk s).nodata = s.nodata := rfl
@[simp] theorem setLenOk_lenok (s : State) : (setLenOk s).lenok = decide (s.rxlen.val = Config.requestSize) := rfl
@[simp] theorem setLenOk_crcok (s : State) : (setLenOk s).crcok = s.crcok := rfl
@[simp] theorem setLenOk_ovr (s : State) : (setLenOk s).ovr = s.ovr := rfl
@[simp] theorem setLenOk_opok (s : State) : (setLenOk s).opok = s.opok := rfl
@[simp] theorem setLenOk_rx (s : State) : (setLenOk s).rx = s.rx := rfl
@[simp] theorem setLenOk_tx (s : State) : (setLenOk s).tx = s.tx := rfl
@[simp] theorem setLenOk_rom (s : State) : (setLenOk s).rom = s.rom := rfl
@[simp] theorem setLenOk_transport (s : State) : (setLenOk s).transport = s.transport := rfl
@[simp] theorem setLenOk_vehicle (s : State) : (setLenOk s).vehicle = s.vehicle := rfl

/-! ### setOvr -/

@[simp] theorem setOvr_phase (s : State) : (setOvr s).phase = s.phase := rfl
@[simp] theorem setOvr_crc (s : State) : (setOvr s).crc = s.crc := rfl
@[simp] theorem setOvr_rxlen (s : State) : (setOvr s).rxlen = s.rxlen := rfl
@[simp] theorem setOvr_cmd (s : State) : (setOvr s).cmd = s.cmd := rfl
@[simp] theorem setOvr_arg0 (s : State) : (setOvr s).arg0 = s.arg0 := rfl
@[simp] theorem setOvr_arg1 (s : State) : (setOvr s).arg1 = s.arg1 := rfl
@[simp] theorem setOvr_res (s : State) : (setOvr s).res = s.res := rfl
@[simp] theorem setOvr_feat (s : State) : (setOvr s).feat = s.feat := rfl
@[simp] theorem setOvr_rsp (s : State) : (setOvr s).rsp = s.rsp := rfl
@[simp] theorem setOvr_nodata (s : State) : (setOvr s).nodata = s.nodata := rfl
@[simp] theorem setOvr_lenok (s : State) : (setOvr s).lenok = s.lenok := rfl
@[simp] theorem setOvr_crcok (s : State) : (setOvr s).crcok = s.crcok := rfl
@[simp] theorem setOvr_ovr (s : State) : (setOvr s).ovr = s.nearEmptyAnswer := rfl
@[simp] theorem setOvr_opok (s : State) : (setOvr s).opok = s.opok := rfl
@[simp] theorem setOvr_rx (s : State) : (setOvr s).rx = s.rx := rfl
@[simp] theorem setOvr_tx (s : State) : (setOvr s).tx = s.tx := rfl
@[simp] theorem setOvr_rom (s : State) : (setOvr s).rom = s.rom := rfl
@[simp] theorem setOvr_transport (s : State) : (setOvr s).transport = s.transport := rfl
@[simp] theorem setOvr_vehicle (s : State) : (setOvr s).vehicle = (callNearEmpty s).vehicle := rfl

/-! ### setOpOk -/

@[simp] theorem setOpOk_phase (b : Bool) (s : State) : (setOpOk b s).phase = s.phase := rfl
@[simp] theorem setOpOk_crc (b : Bool) (s : State) : (setOpOk b s).crc = s.crc := rfl
@[simp] theorem setOpOk_rxlen (b : Bool) (s : State) : (setOpOk b s).rxlen = s.rxlen := rfl
@[simp] theorem setOpOk_cmd (b : Bool) (s : State) : (setOpOk b s).cmd = s.cmd := rfl
@[simp] theorem setOpOk_arg0 (b : Bool) (s : State) : (setOpOk b s).arg0 = s.arg0 := rfl
@[simp] theorem setOpOk_arg1 (b : Bool) (s : State) : (setOpOk b s).arg1 = s.arg1 := rfl
@[simp] theorem setOpOk_res (b : Bool) (s : State) : (setOpOk b s).res = s.res := rfl
@[simp] theorem setOpOk_feat (b : Bool) (s : State) : (setOpOk b s).feat = s.feat := rfl
@[simp] theorem setOpOk_rsp (b : Bool) (s : State) : (setOpOk b s).rsp = s.rsp := rfl
@[simp] theorem setOpOk_nodata (b : Bool) (s : State) : (setOpOk b s).nodata = s.nodata := rfl
@[simp] theorem setOpOk_lenok (b : Bool) (s : State) : (setOpOk b s).lenok = s.lenok := rfl
@[simp] theorem setOpOk_crcok (b : Bool) (s : State) : (setOpOk b s).crcok = s.crcok := rfl
@[simp] theorem setOpOk_ovr (b : Bool) (s : State) : (setOpOk b s).ovr = s.ovr := rfl
@[simp] theorem setOpOk_opok (b : Bool) (s : State) : (setOpOk b s).opok = b := rfl
@[simp] theorem setOpOk_rx (b : Bool) (s : State) : (setOpOk b s).rx = s.rx := rfl
@[simp] theorem setOpOk_tx (b : Bool) (s : State) : (setOpOk b s).tx = s.tx := rfl
@[simp] theorem setOpOk_rom (b : Bool) (s : State) : (setOpOk b s).rom = s.rom := rfl
@[simp] theorem setOpOk_transport (b : Bool) (s : State) : (setOpOk b s).transport = s.transport := rfl
@[simp] theorem setOpOk_vehicle (b : Bool) (s : State) : (setOpOk b s).vehicle = s.vehicle := rfl

/-! ### setOpOkFromLevel -/

@[simp] theorem setOpOkFromLevel_phase (s : State) : (setOpOkFromLevel s).phase = s.phase := rfl
@[simp] theorem setOpOkFromLevel_crc (s : State) : (setOpOkFromLevel s).crc = s.crc := rfl
@[simp] theorem setOpOkFromLevel_rxlen (s : State) : (setOpOkFromLevel s).rxlen = s.rxlen := rfl
@[simp] theorem setOpOkFromLevel_cmd (s : State) : (setOpOkFromLevel s).cmd = s.cmd := rfl
@[simp] theorem setOpOkFromLevel_arg0 (s : State) : (setOpOkFromLevel s).arg0 = s.arg0 := rfl
@[simp] theorem setOpOkFromLevel_arg1 (s : State) : (setOpOkFromLevel s).arg1 = s.arg1 := rfl
@[simp] theorem setOpOkFromLevel_res (s : State) : (setOpOkFromLevel s).res = s.res := rfl
@[simp] theorem setOpOkFromLevel_feat (s : State) : (setOpOkFromLevel s).feat = s.feat := rfl
@[simp] theorem setOpOkFromLevel_rsp (s : State) : (setOpOkFromLevel s).rsp = s.rsp := rfl
@[simp] theorem setOpOkFromLevel_nodata (s : State) : (setOpOkFromLevel s).nodata = s.nodata := rfl
@[simp] theorem setOpOkFromLevel_lenok (s : State) : (setOpOkFromLevel s).lenok = s.lenok := rfl
@[simp] theorem setOpOkFromLevel_crcok (s : State) : (setOpOkFromLevel s).crcok = s.crcok := rfl
@[simp] theorem setOpOkFromLevel_ovr (s : State) : (setOpOkFromLevel s).ovr = s.ovr := rfl
@[simp] theorem setOpOkFromLevel_opok (s : State) : (setOpOkFromLevel s).opok = decide (0 ≤ s.res.toInt) := rfl
@[simp] theorem setOpOkFromLevel_rx (s : State) : (setOpOkFromLevel s).rx = s.rx := rfl
@[simp] theorem setOpOkFromLevel_tx (s : State) : (setOpOkFromLevel s).tx = s.tx := rfl
@[simp] theorem setOpOkFromLevel_rom (s : State) : (setOpOkFromLevel s).rom = s.rom := rfl
@[simp] theorem setOpOkFromLevel_transport (s : State) : (setOpOkFromLevel s).transport = s.transport := rfl
@[simp] theorem setOpOkFromLevel_vehicle (s : State) : (setOpOkFromLevel s).vehicle = s.vehicle := rfl

/-! ### callNearEmpty -/

@[simp] theorem callNearEmpty_phase (s : State) : (callNearEmpty s).phase = s.phase := rfl
@[simp] theorem callNearEmpty_crc (s : State) : (callNearEmpty s).crc = s.crc := rfl
@[simp] theorem callNearEmpty_rxlen (s : State) : (callNearEmpty s).rxlen = s.rxlen := rfl
@[simp] theorem callNearEmpty_cmd (s : State) : (callNearEmpty s).cmd = s.cmd := rfl
@[simp] theorem callNearEmpty_arg0 (s : State) : (callNearEmpty s).arg0 = s.arg0 := rfl
@[simp] theorem callNearEmpty_arg1 (s : State) : (callNearEmpty s).arg1 = s.arg1 := rfl
@[simp] theorem callNearEmpty_res (s : State) : (callNearEmpty s).res = s.res := rfl
@[simp] theorem callNearEmpty_feat (s : State) : (callNearEmpty s).feat = s.feat := rfl
@[simp] theorem callNearEmpty_rsp (s : State) : (callNearEmpty s).rsp = s.rsp := rfl
@[simp] theorem callNearEmpty_nodata (s : State) : (callNearEmpty s).nodata = s.nodata := rfl
@[simp] theorem callNearEmpty_lenok (s : State) : (callNearEmpty s).lenok = s.lenok := rfl
@[simp] theorem callNearEmpty_crcok (s : State) : (callNearEmpty s).crcok = s.crcok := rfl
@[simp] theorem callNearEmpty_ovr (s : State) : (callNearEmpty s).ovr = s.ovr := rfl
@[simp] theorem callNearEmpty_opok (s : State) : (callNearEmpty s).opok = s.opok := rfl
@[simp] theorem callNearEmpty_rx (s : State) : (callNearEmpty s).rx = s.rx := rfl
@[simp] theorem callNearEmpty_tx (s : State) : (callNearEmpty s).tx = s.tx := rfl
@[simp] theorem callNearEmpty_rom (s : State) : (callNearEmpty s).rom = s.rom := rfl
@[simp] theorem callNearEmpty_transport (s : State) : (callNearEmpty s).transport = s.transport := rfl
@[simp] theorem callNearEmpty_vehicle (s : State) : (callNearEmpty s).vehicle = { s.vehicle with nearEmpty := s.vehicle.nearEmpty.advance, calls := s.vehicle.calls ++ [.answerBatteryNearEmpty] } := rfl

/-! ### callGetFeatures -/

@[simp] theorem callGetFeatures_phase (s : State) : (callGetFeatures s).phase = s.phase := rfl
@[simp] theorem callGetFeatures_crc (s : State) : (callGetFeatures s).crc = s.crc := rfl
@[simp] theorem callGetFeatures_rxlen (s : State) : (callGetFeatures s).rxlen = s.rxlen := rfl
@[simp] theorem callGetFeatures_cmd (s : State) : (callGetFeatures s).cmd = s.cmd := rfl
@[simp] theorem callGetFeatures_arg0 (s : State) : (callGetFeatures s).arg0 = s.arg0 := rfl
@[simp] theorem callGetFeatures_arg1 (s : State) : (callGetFeatures s).arg1 = s.arg1 := rfl
@[simp] theorem callGetFeatures_res (s : State) : (callGetFeatures s).res = s.res := rfl
@[simp] theorem callGetFeatures_feat (s : State) : (callGetFeatures s).feat = s.feat := rfl
@[simp] theorem callGetFeatures_rsp (s : State) : (callGetFeatures s).rsp = s.rsp := rfl
@[simp] theorem callGetFeatures_nodata (s : State) : (callGetFeatures s).nodata = s.nodata := rfl
@[simp] theorem callGetFeatures_lenok (s : State) : (callGetFeatures s).lenok = s.lenok := rfl
@[simp] theorem callGetFeatures_crcok (s : State) : (callGetFeatures s).crcok = s.crcok := rfl
@[simp] theorem callGetFeatures_ovr (s : State) : (callGetFeatures s).ovr = s.ovr := rfl
@[simp] theorem callGetFeatures_opok (s : State) : (callGetFeatures s).opok = s.opok := rfl
@[simp] theorem callGetFeatures_rx (s : State) : (callGetFeatures s).rx = s.rx := rfl
@[simp] theorem callGetFeatures_tx (s : State) : (callGetFeatures s).tx = s.tx := rfl
@[simp] theorem callGetFeatures_rom (s : State) : (callGetFeatures s).rom = s.rom := rfl
@[simp] theorem callGetFeatures_transport (s : State) : (callGetFeatures s).transport = s.transport := rfl
@[simp] theorem callGetFeatures_vehicle (s : State) : (callGetFeatures s).vehicle = { s.vehicle with features := s.vehicle.features.advance, calls := s.vehicle.calls ++ [.getFeatures] } := rfl

/-! ### callTurnCar -/

@[simp] theorem callTurnCar_phase (v : I16) (s : State) : (callTurnCar v s).phase = s.phase := rfl
@[simp] theorem callTurnCar_crc (v : I16) (s : State) : (callTurnCar v s).crc = s.crc := rfl
@[simp] theorem callTurnCar_rxlen (v : I16) (s : State) : (callTurnCar v s).rxlen = s.rxlen := rfl
@[simp] theorem callTurnCar_cmd (v : I16) (s : State) : (callTurnCar v s).cmd = s.cmd := rfl
@[simp] theorem callTurnCar_arg0 (v : I16) (s : State) : (callTurnCar v s).arg0 = s.arg0 := rfl
@[simp] theorem callTurnCar_arg1 (v : I16) (s : State) : (callTurnCar v s).arg1 = s.arg1 := rfl
@[simp] theorem callTurnCar_res (v : I16) (s : State) : (callTurnCar v s).res = s.res := rfl
@[simp] theorem callTurnCar_feat (v : I16) (s : State) : (callTurnCar v s).feat = s.feat := rfl
@[simp] theorem callTurnCar_rsp (v : I16) (s : State) : (callTurnCar v s).rsp = s.rsp := rfl
@[simp] theorem callTurnCar_nodata (v : I16) (s : State) : (callTurnCar v s).nodata = s.nodata := rfl
@[simp] theorem callTurnCar_lenok (v : I16) (s : State) : (callTurnCar v s).lenok = s.lenok := rfl
@[simp] theorem callTurnCar_crcok (v : I16) (s : State) : (callTurnCar v s).crcok = s.crcok := rfl
@[simp] theorem callTurnCar_ovr (v : I16) (s : State) : (callTurnCar v s).ovr = s.ovr := rfl
@[simp] theorem callTurnCar_opok (v : I16) (s : State) : (callTurnCar v s).opok = s.opok := rfl
@[simp] theorem callTurnCar_rx (v : I16) (s : State) : (callTurnCar v s).rx = s.rx := rfl
@[simp] theorem callTurnCar_tx (v : I16) (s : State) : (callTurnCar v s).tx = s.tx := rfl
@[simp] theorem callTurnCar_rom (v : I16) (s : State) : (callTurnCar v s).rom = s.rom := rfl
@[simp] theorem callTurnCar_transport (v : I16) (s : State) : (callTurnCar v s).transport = s.transport := rfl
@[simp] theorem callTurnCar_vehicle (v : I16) (s : State) : (callTurnCar v s).vehicle = { s.vehicle with turnCar := s.vehicle.turnCar.advance, calls := s.vehicle.calls ++ [.turnCar v] } := rfl

/-! ### callAdjustSpeed -/

@[simp] theorem callAdjustSpeed_phase (v : I16) (s : State) : (callAdjustSpeed v s).phase = s.phase := rfl
@[simp] theorem callAdjustSpeed_crc (v : I16) (s : State) : (callAdjustSpeed v s).crc = s.crc := rfl
@[simp] theorem callAdjustSpeed_rxlen (v : I16) (s : State) : (callAdjustSpeed v s).rxlen = s.rxlen := rfl
@[simp] theorem callAdjustSpeed_cmd (v : I16) (s : State) : (callAdjustSpeed v s).cmd = s.cmd := rfl
@[simp] theorem callAdjustSpeed_arg0 (v : I16) (s : State) : (callAdjustSpeed v s).arg0 = s.arg0 := rfl
@[simp] theorem callAdjustSpeed_arg1 (v : I16) (s : State) : (callAdjustSpeed v s).arg1 = s.arg1 := rfl
@[simp] theorem callAdjustSpeed_res (v : I16) (s : State) : (callAdjustSpeed v s).res = s.res := rfl
@[simp] theorem callAdjustSpeed_feat (v : I16) (s : State) : (callAdjustSpeed v s).feat = s.feat := rfl
@[simp] theorem callAdjustSpeed_rsp (v : I16) (s : State) : (callAdjustSpeed v s).rsp = s.rsp := rfl
@[simp] theorem callAdjustSpeed_nodata (v : I16) (s : State) : (callAdjustSpeed v s).nodata = s.nodata := rfl
@[simp] theorem callAdjustSpeed_lenok (v : I16) (s : State) : (callAdjustSpeed v s).lenok = s.lenok := rfl
@[simp] theorem callAdjustSpeed_crcok (v : I16) (s : State) : (callAdjustSpeed v s).crcok = s.crcok := rfl
@[simp] theorem callAdjustSpeed_ovr (v : I16) (s : State) : (callAdjustSpeed v s).ovr = s.ovr := rfl
@[simp] theorem callAdjustSpeed_opok (v : I16) (s : State) : (callAdjustSpeed v s).opok = s.opok := rfl
@[simp] theorem callAdjustSpeed_rx (v : I16) (s : State) : (callAdjustSpeed v s).rx = s.rx := rfl
@[simp] theorem callAdjustSpeed_tx (v : I16) (s : State) : (callAdjustSpeed v s).tx = s.tx := rfl
@[simp] theorem callAdjustSpeed_rom (v : I16) (s : State) : (callAdjustSpeed v s).rom = s.rom := rfl
@[simp] theorem callAdjustSpeed_transport (v : I16) (s : State) : (callAdjustSpeed v s).transport = s.transport := rfl
@[simp] theorem callAdjustSpeed_vehicle (v : I16) (s : State) : (callAdjustSpeed v s).vehicle = { s.vehicle with adjustSpeed := s.vehicle.adjustSpeed.advance, calls := s.vehicle.calls ++ [.adjustSpeed v] } := rfl

/-! ### callRotateCam -/

@[simp] theorem callRotateCam_phase (p t : I16) (s : State) : (callRotateCam p t s).phase = s.phase := rfl
@[simp] theorem callRotateCam_crc (p t : I16) (s : State) : (callRotateCam p t s).crc = s.crc := rfl
@[simp] theorem callRotateCam_rxlen (p t : I16) (s : State) : (callRotateCam p t s).rxlen = s.rxlen := rfl
@[simp] theorem callRotateCam_cmd (p t : I16) (s : State) : (callRotateCam p t s).cmd = s.cmd := rfl
@[simp] theorem callRotateCam_arg0 (p t : I16) (s : State) : (callRotateCam p t s).arg0 = s.arg0 := rfl
@[simp] theorem callRotateCam_arg1 (p t : I16) (s : State) : (callRotateCam p t s).arg1 = s.arg1 := rfl
@[simp] theorem callRotateCam_res (p t : I16) (s : State) : (callRotateCam p t s).res = s.res := rfl
@[simp] theorem callRotateCam_feat (p t : I16) (s : State) : (callRotateCam p t s).feat = s.feat := rfl
@[simp] theorem callRotateCam_rsp (p t : I16) (s : State) : (callRotateCam p t s).rsp = s.rsp := rfl
@[simp] theorem callRotateCam_nodata (p t : I16) (s : State) : (callRotateCam p t s).nodata = s.nodata := rfl
@[simp] theorem callRotateCam_lenok (p t : I16) (s : State) : (callRotateCam p t s).lenok = s.lenok := rfl
@[simp] theorem callRotateCam_crcok (p t : I16) (s : State) : (callRotateCam p t s).crcok = s.crcok := rfl
@[simp] theorem callRotateCam_ovr (p t : I16) (s : State) : (callRotateCam p t s).ovr = s.ovr := rfl
@[simp] theorem callRotateCam_opok (p t : I16) (s : State) : (callRotateCam p t s).opok = s.opok := rfl
@[simp] theorem callRotateCam_rx (p t : I16) (s : State) : (callRotateCam p t s).rx = s.rx := rfl
@[simp] theorem callRotateCam_tx (p t : I16) (s : State) : (callRotateCam p t s).tx = s.tx := rfl
@[simp] theorem callRotateCam_rom (p t : I16) (s : State) : (callRotateCam p t s).rom = s.rom := rfl
@[simp] theorem callRotateCam_transport (p t : I16) (s : State) : (callRotateCam p t s).transport = s.transport := rfl
@[simp] theorem callRotateCam_vehicle (p t : I16) (s : State) : (callRotateCam p t s).vehicle = { s.vehicle with rotateCam := s.vehicle.rotateCam.advance, calls := s.vehicle.calls ++ [.rotateCam p t] } := rfl

/-! ### callGetBatteryState -/

@[simp] theorem callGetBatteryState_phase (s : State) : (callGetBatteryState s).phase = s.phase := rfl
@[simp] theorem callGetBatteryState_crc (s : State) : (callGetBatteryState s).crc = s.crc := rfl
@[simp] theorem callGetBatteryState_rxlen (s : State) : (callGetBatteryState s).rxlen = s.rxlen := rfl
@[simp] theorem callGetBatteryState_cmd (s : State) : (callGetBatteryState s).cmd = s.cmd := rfl
@[simp] theorem callGetBatteryState_arg0 (s : State) : (callGetBatteryState s).arg0 = s.arg0 := rfl
@[simp] theorem callGetBatteryState_arg1 (s : State) : (callGetBatteryState s).arg1 = s.arg1 := rfl
@[simp] theorem callGetBatteryState_res (s : State) : (callGetBatteryState s).res = s.res := rfl
@[simp] theorem callGetBatteryState_feat (s : State) : (callGetBatteryState s).feat = s.feat := rfl
@[simp] theorem callGetBatteryState_rsp (s : State) : (callGetBatteryState s).rsp = s.rsp := rfl
@[simp] theorem callGetBatteryState_nodata (s : State) : (callGetBatteryState s).nodata = s.nodata := rfl
@[simp] theorem callGetBatteryState_lenok (s : State) : (callGetBatteryState s).lenok = s.lenok := rfl
@[simp] theorem callGetBatteryState_crcok (s : State) : (callGetBatteryState s).crcok = s.crcok := rfl
@[simp] theorem callGetBatteryState_ovr (s : State) : (callGetBatteryState s).ovr = s.ovr := rfl
@[simp] theorem callGetBatteryState_opok (s : State) : (callGetBatteryState s).opok = s.opok := rfl
@[simp] theorem callGetBatteryState_rx (s : State) : (callGetBatteryState s).rx = s.rx := rfl
@[simp] theorem callGetBatteryState_tx (s : State) : (callGetBatteryState s).tx = s.tx := rfl
@[simp] theorem callGetBatteryState_rom (s : State) : (callGetBatteryState s).rom = s.rom := rfl
@[simp] theorem callGetBatteryState_transport (s : State) : (callGetBatteryState s).transport = s.transport := rfl
@[simp] theorem callGetBatteryState_vehicle (s : State) : (callGetBatteryState s).vehicle = { s.vehicle with batteryState := s.vehicle.batteryState.advance, calls := s.vehicle.calls ++ [.getBatteryState] } := rfl

/-! ### crcReset -/

@[simp] theorem crcReset_phase (s : State) : (crcReset s).phase = s.phase := rfl
@[simp] theorem crcReset_crc (s : State) : (crcReset s).crc = s.rom.init := rfl
@[simp] theorem crcReset_rxlen (s : State) : (crcReset s).rxlen = s.rxlen := rfl
@[simp] theorem crcReset_cmd (s : State) : (crcReset s).cmd = s.cmd := rfl
@[simp] theorem crcReset_arg0 (s : State) : (crcReset s).arg0 = s.arg0 := rfl
@[simp] theorem crcReset_arg1 (s : State) : (crcReset s).arg1 = s.arg1 := rfl
@[simp] theorem crcReset_res (s : State) : (crcReset s).res = s.res := rfl
@[simp] theorem crcReset_feat (s : State) : (crcReset s).feat = s.feat := rfl
@[simp] theorem crcReset_rsp (s : State) : (crcReset s).rsp = s.rsp := rfl
@[simp] theorem crcReset_nodata (s : State) : (crcReset s).nodata = s.nodata := rfl
@[simp] theorem crcReset_lenok (s : State) : (crcReset s).lenok = s.lenok := rfl
@[simp] theorem crcReset_crcok (s : State) : (crcReset s).crcok = s.crcok := rfl
@[simp] theorem crcReset_ovr (s : State) : (crcReset s).ovr = s.ovr := rfl
@[simp] theorem crcReset_opok (s : State) : (crcReset s).opok = s.opok := rfl
@[simp] theorem crcReset_rx (s : State) : (crcReset s).rx = s.rx := rfl
@[simp] theorem crcReset_tx (s : State) : (crcReset s).tx = s.tx := rfl
@[simp] theorem crcReset_rom (s : State) : (crcReset s).rom = s.rom := rfl
@[simp] theorem crcReset_transport (s : State) : (crcReset s).transport = s.transport := rfl
@[simp] theorem crcReset_vehicle (s : State) : (crcReset s).vehicle = s.vehicle := rfl

/-! ### crcUpdate -/

@[simp] theorem crcUpdate_phase (s : State) (b : Byte) : (crcUpdate s b).phase = s.phase := rfl
@[simp] theorem crcUpdate_crc (s : State) (b : Byte) : (crcUpdate s b).crc = crcStep s.rom s.crc b := rfl
@[simp] theorem crcUpdate_rxlen (s : State) (b : Byte) : (crcUpdate s b).rxlen = s.rxlen := rfl
@[simp] theorem crcUpdate_cmd (s : State) (b : Byte) : (crcUpdate s b).cmd = s.cmd := rfl
@[simp] theorem crcUpdate_arg0 (s : State) (b : Byte) : (crcUpdate s b).arg0 = s.arg0 := rfl
@[simp] theorem crcUpdate_arg1 (s : State) (b : Byte) : (crcUpdate s b).arg1 = s.arg1 := rfl
@[simp] theorem crcUpdate_res (s : State) (b : Byte) : (crcUpdate s b).res = s.res := rfl
@[simp] theorem crcUpdate_feat (s : State) (b : Byte) : (crcUpdate s b).feat = s.feat := rfl
@[simp] theorem crcUpdate_rsp (s : State) (b : Byte) : (crcUpdate s b).rsp = s.rsp := rfl
@[simp] theorem crcUpdate_nodata (s : State) (b : Byte) : (crcUpdate s b).nodata = s.nodata := rfl
@[simp] theorem crcUpdate_lenok (s : State) (b : Byte) : (crcUpdate s b).lenok = s.lenok := rfl
@[simp] theorem crcUpdate_crcok (s : State) (b : Byte) : (crcUpdate s b).crcok = s.crcok := rfl
@[simp] theorem crcUpdate_ovr (s : State) (b : Byte) : (crcUpdate s b).ovr = s.ovr := rfl
@[simp] theorem crcUpdate_opok (s : State) (b : Byte) : (crcUpdate s b).opok = s.opok := rfl
@[simp] theorem crcUpdate_rx (s : State) (b : Byte) : (crcUpdate s b).rx = s.rx := rfl
@[simp] theorem crcUpdate_tx (s : State) (b : Byte) : (crcUpdate s b).tx = s.tx := rfl
@[simp] theorem crcUpdate_rom (s : State) (b : Byte) : (crcUpdate s b).rom = s.rom := rfl
@[simp] theorem crcUpdate_transport (s : State) (b : Byte) : (crcUpdate s b).transport = s.transport := rfl
@[simp] theorem crcUpdate_vehicle (s : State) (b : Byte) : (crcUpdate s b).vehicle = s.vehicle := rfl

/-! ### The answers a state holds ready do not depend on the block's registers -/

theorem nearEmptyAnswer_congr {s t : State} (h : s.vehicle.nearEmpty = t.vehicle.nearEmpty) : s.nearEmptyAnswer = t.nearEmptyAnswer := by
  simp only [State.nearEmptyAnswer, h]

theorem featuresAnswer_congr {s t : State} (h : s.vehicle.features = t.vehicle.features) : s.featuresAnswer = t.featuresAnswer := by
  simp only [State.featuresAnswer, h]

theorem turnCarAnswer_congr {s t : State} (h : s.vehicle.turnCar = t.vehicle.turnCar) : s.turnCarAnswer = t.turnCarAnswer := by
  simp only [State.turnCarAnswer, h]

theorem adjustSpeedAnswer_congr {s t : State} (h : s.vehicle.adjustSpeed = t.vehicle.adjustSpeed) : s.adjustSpeedAnswer = t.adjustSpeedAnswer := by
  simp only [State.adjustSpeedAnswer, h]

theorem rotateCamAnswer_congr {s t : State} (h : s.vehicle.rotateCam = t.vehicle.rotateCam) : s.rotateCamAnswer = t.rotateCamAnswer := by
  simp only [State.rotateCamAnswer, h]

theorem batteryStateAnswer_congr {s t : State} (h : s.vehicle.batteryState = t.vehicle.batteryState) : s.batteryStateAnswer = t.batteryStateAnswer := by
  simp only [State.batteryStateAnswer, h]

theorem pollCount_congr {s t : State} (h : s.transport = t.transport) : s.pollCount = t.pollCount := by
  simp only [State.pollCount, h]

theorem pollBytes_congr {s t : State} (h : s.transport = t.transport) : s.pollBytes = t.pollBytes := by
  simp only [State.pollBytes, pollCount_congr h, h]

end Sys2Proof.Machine
end

