-- ==== Sys2Proof/Laws/Frames.lean ====
section
/-! SUPPORT. The spec lemmas of the shared operations: the checksum on the CRC register, the build of each response frame,
the end of a response, and the arms of exec. -/

namespace Sys2Proof.Machine

/-! ### The checksum micro-operation -/

theorem crcUpdate_eq (s : State) (b : Byte) : crcUpdate s b = { s with crc := crcStep s.rom s.crc b } := rfl

theorem foldl_crcUpdate : ∀ (bytes : List Byte) (s : State),
    bytes.foldl crcUpdate s = { s with crc := bytes.foldl (crcStep s.rom) s.crc }
  | [], _ => rfl
  | b :: rest, s => by
    rw [List.foldl_cons, foldl_crcUpdate rest (crcUpdate s b), List.foldl_cons]
    rfl

/-- All that the checksum micro-operation does: CRC holds the checksum, nothing else changes. -/
theorem runChecksum_eq (s : State) (bytes : List Byte) :
    runChecksum s bytes = { s with crc := checksum s.rom bytes } := by
  simp only [runChecksum, foldl_crcUpdate]
  rfl

/-! ### Frames before the stamp -/

/-- Every frame body the encoder writes has 15 bytes. -/
theorem encodeBody_length (i : Instr) : (encodeBody i).length = 15 := by cases i <;> rfl

theorem encode_length (rom : CrcRom) (i : Instr) : (encode rom i).length = 16 := by
  simp [encode, encodeBody_length]

theorem coveredBytes_stamped (rom : CrcRom) (body : List Byte) (h : body.length = 15) :
    coveredBytes (stamped rom body) = body := by
  simp only [coveredBytes, stamped]
  rw [List.take_append_of_le_length (by omega), List.take_of_length_le (by omega)]

theorem coveredBytes_encode (rom : CrcRom) (i : Instr) : coveredBytes (encode rom i) = encodeBody i :=
  coveredBytes_stamped rom _ (encodeBody_length i)

theorem emptyFrame_ok : emptyFrame .ok = Memory.ofBytes (encodeBody .ok) := rfl

theorem emptyFrame_batteryNearEmpty : emptyFrame .batteryNearEmpty = Memory.ofBytes (encodeBody .batteryNearEmpty) := rfl

theorem valueFrame_error (v : I16) (h) : valueFrame .error v h = Memory.ofBytes (encodeBody (.error v)) := rfl

theorem valueFrame_protocolVersion (v : I16) (h) :
    valueFrame .protocolVersion v h = Memory.ofBytes (encodeBody (.protocolVersion v)) := rfl

theorem valueFrame_batteryState (v : I16) (h) :
    valueFrame .batteryState v h = Memory.ofBytes (encodeBody (.batteryState v)) := rfl

theorem featuresFrame_eq (f : CarFeatures) : featuresFrame f = Memory.ofBytes (encodeBody (.features f)) := rfl

/-- The body of the Error frame of each ErrorId (R88). -/
theorem encodeBody_error_code (e : ErrorId) : encodeBody (.error e.code) =
    [0x02, 0x00, BitVec.ofNat 8 e.code.toNat, 0, 0, 0, 0, 0, 0, 0, 0, 0, 0, 0, 0] := by cases e <;> decide

/-! ### The end of a response -/

theorem ofBytesFrom_append_write : ∀ (bytes : List Byte) (i : Nat) (b : Byte),
    (Memory.ofBytesFrom i bytes).write (i + bytes.length) b = Memory.ofBytesFrom i (bytes ++ [b])
  | [], _, _ => rfl
  | c :: rest, i, b => by
    have h := ofBytesFrom_append_write rest (i + 1) b
    simp only [List.length_cons, List.cons_append, Memory.ofBytesFrom, Memory.write]
    rw [if_neg (by omega), if_neg (by omega), ← h]
    congr 2
    omega

theorem transmit_of_bytes (s : State) (frame : List Byte) (h : s.tx.bytes 0 Config.responseSize = some frame) :
    transmit s =
      .next (returnToIdle { s with transport := { s.transport with sent := s.transport.sent ++ frame } }) := by
  simp only [transmit, h]

/-- All that the end of a build does to a frame body of 15 bytes. -/
theorem stampAndTransmit_ofBytes (body : List Byte) (h : body.length = 15) (s : State) :
    stampAndTransmit (Memory.ofBytes body) s = .next (afterSending s (stamped s.rom body)) := by
  have hb : (Memory.ofBytes body).bytes 0 15 = some body := by
    rw [bytes_ofBytes body 15 0 (by omega)]
    simp [List.take_of_length_le, h]
  have hw : memWrite1 (Memory.ofBytes body) 15 (checksum s.rom body) = Memory.ofBytes (stamped s.rom body) := by
    have := ofBytesFrom_append_write body 0 (checksum s.rom body)
    simpa [memWrite1, Memory.ofBytes, stamped, h] using this
  have hf : (Memory.ofBytes (stamped s.rom body)).bytes 0 Config.responseSize = some (stamped s.rom body) := by
    have hl : (stamped s.rom body).length = 16 := by simp [stamped, h]
    rw [bytes_ofBytes _ _ 0 (by simp [Config.responseSize, hl])]
    simp [List.take_of_length_le, hl, Config.responseSize]
  simp only [stampAndTransmit, hb, runChecksum_eq, hw]
  rw [transmit_of_bytes _ _ hf]
  simp only [afterSending, returnToIdle, coveredBytes_stamped s.rom body h]

/-- All that a response does: its encoding is built in TX, stamped and sent. -/
theorem exec_response (i : Instr) (hi : i.isRequest = false) (s : State) :
    exec i s = .next (afterSending s (encode s.rom i)) := by
  have key := stampAndTransmit_ofBytes (encodeBody i) (encodeBody_length i) s
  cases i <;> first | exact key | exact absurd hi (by simp [Instr.isRequest])

theorem responseOf_isResponse (s : State) : (responseOf s).isRequest = false := by
  simp only [responseOf]; cases s.rsp <;> rfl

/-- All that the Responding phase does. -/
theorem fromResponding_eq (s : State) :
    fromResponding s = .next (afterSending s (encode s.rom (responseOf s))) :=
  exec_response _ (responseOf_isResponse s) s

end Sys2Proof.Machine
end

