-- ==== Sys2Proof/Laws/PerInstr.lean ====
section
/-! SUPPORT. Statements per instruction, one lemma per constructor. -/

namespace Sys2Proof.Laws

/-- The frame body of an instruction has exactly the 15 bytes the checksum covers, so its frame has 16 (R80, R117). -/
def FifteenByteBody.Statement (i : Instr) : Prop := (encodeBody i).length = 15

theorem FifteenByteBody.noop : FifteenByteBody.Statement .noop := rfl

theorem FifteenByteBody.getProtocolVersion : FifteenByteBody.Statement .getProtocolVersion := rfl

theorem FifteenByteBody.getFeatures : FifteenByteBody.Statement .getFeatures := rfl

theorem FifteenByteBody.turnCar (rotation : I16) : FifteenByteBody.Statement (.turnCar rotation) := rfl

theorem FifteenByteBody.adjustSpeed (speed : I16) : FifteenByteBody.Statement (.adjustSpeed speed) := rfl

theorem FifteenByteBody.rotateCam (pan tilt : I16) : FifteenByteBody.Statement (.rotateCam pan tilt) := rfl

theorem FifteenByteBody.getBatteryState : FifteenByteBody.Statement .getBatteryState := rfl

theorem FifteenByteBody.unknownCommand (cmd : Byte) : FifteenByteBody.Statement (.unknownCommand cmd) := rfl

theorem FifteenByteBody.ok : FifteenByteBody.Statement .ok := rfl

theorem FifteenByteBody.error (errorId : I16) : FifteenByteBody.Statement (.error errorId) := rfl

theorem FifteenByteBody.batteryNearEmpty : FifteenByteBody.Statement .batteryNearEmpty := rfl

theorem FifteenByteBody.protocolVersion (version : I16) : FifteenByteBody.Statement (.protocolVersion version) := rfl

theorem FifteenByteBody.features (f : CarFeatures) : FifteenByteBody.Statement (.features f) := rfl

theorem FifteenByteBody.batteryState (level : I16) : FifteenByteBody.Statement (.batteryState level) := rfl

end Sys2Proof.Laws
end

