-- ==== Sys2Proof/Laws/Phases.lean ====
section
/-! SUPPORT. The spec lemmas of the poll and of each phase: what it does in each of its cases, said once. -/

namespace Sys2Proof.Machine

/-! ### The poll -/

theorem pollCount_le_waiting (s : State) : s.pollCount.val ≤ s.transport.queue.length := by
  simp only [State.pollCount]
  split
  · simp only [Config.requestSize]; omega
  · simp

/-- The poll delivers as many bytes as it counts. -/
@[simp] theorem pollBytes_length (s : State) : s.pollBytes.length = s.pollCount.val := by
  have := pollCount_le_waiting s
  simp only [State.pollBytes, List.length_take]
  omega

theorem pollBytes_length_le (s : State) : s.pollBytes.length ≤ 16 := by
  have := s.pollCount.isLt
  rw [pollBytes_length]; omega

/-! ### Responding -/

/-- All that the Responding phase does after the response id and the payload registers are set. -/
theorem fromResponding_next (s : State) :
    fromResponding s = .next (afterSending s (encode s.rom (responseOf s))) :=
  exec_response _ (by simp only [responseOf]; cases s.rsp <;> rfl) s

theorem responseOf_raiseError (e : ErrorId) (s : State) : responseOf (raiseError e s) = .error e.code := rfl

/-! ### Dispatching -/

/-- The hand-over on a captured frame of 16 bytes: CMD takes byte 0 and the decoded instruction runs. -/
theorem dispatch_ofBytes (s : State) (d : List Byte) (hd : d.length = 16) (hrx : s.rx = Memory.ofBytes d) (i : Instr)
    (hi : decodeCommand (byteOf d) = some i) : dispatch s = exec i { s with cmd := d.getD 0 0 } := by
  obtain ⟨j, hj, ha⟩ := decodeCommand_of_sixteen d hd
  have hji : j = i := by rw [hj] at hi; exact Option.some.inj hi
  subst hji
  have h0 : memRead1 (Memory.ofBytes d) 0 = some (d.getD 0 0) := by
    simp only [memRead1, read_ofBytes]
    cases d with
    | nil => simp at hd
    | cons b rest => rfl
  simp only [dispatch, hrx, h0, read_ofBytes_eq_byteOf, ha]

/-- The override answered true. -/
theorem fromDispatching_override (s : State) (h : s.nearEmptyAnswer = true) :
    fromDispatching s = fromResponding (overrideWithNearEmpty (setOvr s)) := by
  simp only [fromDispatching, setOvr_ovr, h, if_true]

/-- The override answered false. -/
theorem fromDispatching_command (s : State) (h : s.nearEmptyAnswer = false) :
    fromDispatching s = andThen (dispatch (setOvr s)) fromResponding := by
  simp only [fromDispatching, setOvr_ovr, h]
  rfl

/-! ### Validating -/

/-- The length test failed. -/
theorem fromValidating_short (s : State) (h : s.rxlen.val ≠ 16) :
    fromValidating s = fromResponding (raiseError .invalidCommand (setLenOk s)) := by
  have : (setLenOk s).lenok = false := by simp [Config.requestSize, h]
  simp only [fromValidating, this]
  rfl

/-- The length test passed: the checksum test on the captured frame decides. -/
theorem fromValidating_full (s : State) (d : List Byte) (hd : d.length = 16) (hrx : s.rx = Memory.ofBytes d)
    (h : s.rxlen.val = 16) :
    fromValidating s =
      if hasChecksum s.rom d then
        fromDispatching { s with
          lenok := true, crc := checksum s.rom (coveredBytes d), crcok := true, phase := .dispatching }
      else
        fromResponding (raiseError .invalidCommand { s with
          lenok := true, crc := checksum s.rom (coveredBytes d), crcok := false }) := by
  have hl : setLenOk s = { s with lenok := true } := by simp [setLenOk, Config.requestSize, h]
  have hb : (Memory.ofBytes d).bytes 0 15 = some (coveredBytes d) := by
    rw [bytes_ofBytes d 15 0 (by omega)]; rfl
  have hlast : memRead1 (Memory.ofBytes d) 15 = some d[15] := by
    simp [memRead1, hd]
  have hc : hasChecksum s.rom d = decide (checksum s.rom (coveredBytes d) = d[15]) := by
    simp only [hasChecksum, byteOf, List.getElem?_eq_getElem (show 15 < d.length by omega), Option.some.injEq]
    exact decide_eq_decide.mpr eq_comm
  simp only [fromValidating, hl, if_true, checkChecksum, hrx, hb, hlast, setCrcOk, runChecksum_eq, hc]
  by_cases hq : checksum s.rom (coveredBytes d) = d[15] <;> simp [hq]

/-! ### Idle -/

/-- The poll delivered nothing. -/
theorem fromIdle_noData (s : State) (h : s.pollCount = 0) : fromIdle s = .next (setNoData (poll s)) := by
  have : (setNoData (poll s)).nodata = true := by simp [h]
  simp only [fromIdle, this, if_true]

/-- The poll delivered something. -/
theorem fromIdle_data (s : State) (h : s.pollCount ≠ 0) :
    fromIdle s = fromValidating { poll s with nodata := false, phase := .validating } := by
  have : setNoData (poll s) = { poll s with nodata := false } := by simp [setNoData, h]
  simp only [fromIdle, this]
  rfl

/-! ### A word placed for the next step -/

theorem withFetchWord_phase (s : State) (nbits w : Nat) : (s.withFetchWord nbits w).phase = .dispatching := by
  simp only [State.withFetchWord]

theorem withFetchWord_rx (s : State) (nbits w : Nat) : (s.withFetchWord nbits w).rx =
    Memory.ofBytes (stamped s.rom (coveredBytes (tableFrame nbits w))) := by
  simp only [State.withFetchWord, stamped]

theorem answerFor_nearEmpty (i : Option Instr) (v : Vehicle) : (answerFor i v).nearEmpty = v.nearEmpty := by
  cases i with
  | none => rfl
  | some i => cases i <;> rfl

theorem next_offer {α : Type} (free : Nat → α) (a : Answers α) (x : α) : (a.offer x).next free = x := rfl

theorem withFetchWord_nearEmptyAnswer (s : State) (nbits w : Nat) :
    (s.withFetchWord nbits w).nearEmptyAnswer = false := by
  simp only [State.nearEmptyAnswer, State.withFetchWord, answerFor_nearEmpty, next_offer]

theorem tableFrame_length (nbits w : Nat) : (tableFrame nbits w).length = 16 := by
  simp [tableFrame, Config.requestSize]

theorem step_of_idle {s : State} (h : s.phase = .idle) : step s = fromIdle s := by simp only [step, h]

/-! ### The step -/

theorem pollCount_ne_zero {s : State} (h : s.pollBytes ≠ []) : s.pollCount ≠ 0 := by
  intro hc
  apply h
  apply List.eq_nil_of_length_eq_zero
  rw [pollBytes_length, hc]
  rfl

theorem pollCount_eq_zero {s : State} (h : s.pollBytes = []) : s.pollCount = 0 := by
  have := pollBytes_length s
  rw [h] at this
  exact Fin.ext this.symm

/-- A step on a short read: the Responding phase with Error InvalidCommand raised. -/
theorem step_idle_short {s : State} (hs : s.phase = .idle) (h : s.pollBytes ≠ []) (h2 : s.pollBytes.length ≠ 16) :
    step s = fromResponding (raiseError .invalidCommand
      { poll s with nodata := false, phase := .validating, lenok := false }) := by
  rw [step_of_idle hs, fromIdle_data s (pollCount_ne_zero h), fromValidating_short _ (by simpa using h2)]
  congr 2
  simp [setLenOk, Config.requestSize, ← pollBytes_length, h2]

/-- A step on a read of 16 bytes: the checksum decides between the Dispatching phase and Error InvalidCommand. -/
theorem step_idle_full {s : State} (hs : s.phase = .idle) (h2 : s.pollBytes.length = 16) :
    step s =
      if hasChecksum s.rom s.pollBytes then
        fromDispatching { poll s with
          nodata := false, lenok := true, crc := checksum s.rom (coveredBytes s.pollBytes), crcok := true,
          phase := .dispatching }
      else
        fromResponding (raiseError .invalidCommand { poll s with
          nodata := false, phase := .validating, lenok := true, crc := checksum s.rom (coveredBytes s.pollBytes),
          crcok := false }) := by
  have h : s.pollBytes ≠ [] := by intro h; rw [h] at h2; cases h2
  rw [step_of_idle hs, fromIdle_data s (pollCount_ne_zero h), fromValidating_full _ s.pollBytes h2 rfl (by simpa using h2)]
  rfl

/-- What a step answers when it comes down to a Responding phase on the same ROM. -/
theorem step_of_fromResponding {s u : State} (h : step s = fromResponding u) (hr : u.rom = s.rom) :
    step s = .next (afterSending u (encode s.rom (responseOf u))) := by
  rw [h, fromResponding_next, hr]

end Sys2Proof.Machine
end

