-- ==== Sys2Proof/Laws/Reference.lean ====
section
/-! SUPPORT. The laws of tables built from a polynomial and of the register on the CRC register (40_checksum.md R118,
R119). -/

namespace Sys2Proof

@[simp] theorem polynomialRom_init (order : BitOrder) (poly init : Byte) : (polynomialRom order poly init).init = init := rfl

@[simp] theorem polynomialRom_lookup (order : BitOrder) (poly init i : Byte) :
    (polynomialRom order poly init).lookup i = eightTimes (shiftBy order poly) i := by
  simp only [CrcRom.lookup, polynomialRom, Vector.getElem_ofFn]
  rfl

theorem polynomialRom_builtFrom (order : BitOrder) (poly init : Byte) :
    (polynomialRom order poly init).BuiltFrom order poly := fun i => polynomialRom_lookup order poly init i

namespace Machine

theorem foldl_serialUpdate (order : BitOrder) (poly : Byte) (bytes : List Byte) (s : State) :
    bytes.foldl (serialUpdate order poly) s = { s with crc := serialChecksum order poly s.crc bytes } := by
  induction bytes generalizing s with
  | nil => rfl
  | cons b rest ih => rw [List.foldl_cons, ih]; rfl

/-- All that the micro-operation does with the shift register: CRC, and nothing else. -/
theorem runSerialChecksum_eq (order : BitOrder) (poly : Byte) (s : State) (bytes : List Byte) :
    runSerialChecksum order poly s bytes = { s with crc := serialChecksum order poly s.rom.init bytes } :=
  foldl_serialUpdate order poly bytes (crcReset s)

end Machine

end Sys2Proof
end

