-- ==== Sys2Proof/Tests/Slice0.lean ====
section
/-! SUPPORT. Tests of the model, each on one word or one step, and witnesses that the hypotheses of the statements can be
met. Expected values: spec/95_test_vectors.md (named there S, V, K), or worked out by hand from the rule cited. The
checksum bytes are those of the reference table REF_A (40_checksum.md R118). -/

open Sys2Proof Sys2Proof.Machine

set_option maxRecDepth 8000

namespace Sys2Proof.Tests

/-! ### Helpers -/

/-- A 16-byte frame: the bytes written out, zeros up to byte 14, the checksum byte. -/
def frame (bytes : List Byte) (cc : Byte) : List Byte := bytes ++ List.replicate (15 - bytes.length) 0 ++ [cc]

/-- A vehicle whose battery query answers false once. -/
def calm : Vehicle := { nearEmpty := { coming := [false] } }

/-- A vehicle whose battery query answers true once. -/
def critical : Vehicle := { nearEmpty := { coming := [true] } }

/-- The machine after reset with the table REF_A, the bytes `d` waiting and the next poll offering `n` of them. -/
def machine (n : Nat) (d : List Byte) (v : Vehicle) : State :=
  { State.reset with rom := refA, transport := { queue := d, polls := { coming := [n] } }, vehicle := v }

/-- The step ends in Idle, has sent exactly `reply` and has made exactly `calls`. -/
def answers (s : State) (reply : List Byte) (calls : List VehicleCall) : Bool :=
  match step s with
  | .next t => decide (t.phase = .idle) && decide (t.transport.sent = reply) && decide (t.vehicle.calls = calls)
  | .fault _ => false
  | .refused _ => false

/-- The instruction sends exactly `reply` from a state in the Responding phase. -/
def sends (i : Instr) (reply : List Byte) : Bool :=
  match exec i { machine 0 [] calm with phase := .responding } with
  | .next t => decide (t.transport.sent = reply) && decide (t.phase = .idle)
  | .fault _ => false
  | .refused _ => false

/-- The feature descriptor of vector K3: all features, -90, 90, -45, 45. -/
def fullCar : CarFeatures :=
  { adjustableSpeed := true, driveBackward := true, batteryPower := true,
    panMin := -90, panMax := 90, tiltMin := -45, tiltMax := 45 }

/-- The feature descriptor of vector K5: the extremes 0, 32767, -32768, 0. -/
def extremeCar : CarFeatures :=
  { adjustableSpeed := true, driveBackward := false, batteryPower := true,
    panMin := 0, panMax := 32767, tiltMin := -32768, tiltMax := 0 }

/-- The decoder accepts, with this instruction. -/
def accepts (r : Except DecodeError Instr) (i : Instr) : Bool :=
  match r with
  | .ok j => decide (j = i)
  | .error _ => false

/-- The decoder rejects under this name. -/
def rejects (r : Except DecodeError Instr) (e : DecodeError) : Bool :=
  match r with
  | .ok _ => false
  | .error e' => decide (e' = e)

/-! ### Well-formedness: an ill-formed term for each check, and its neighbour -/

/-- R90: 0x01 to 0x07 are not unknown. -/
theorem test_wf_unknownCommand_refused :
    wellFormed (.unknownCommand 0x01) = false ∧ wellFormed (.unknownCommand 0x07) = false := by decide

theorem test_wf_unknownCommand_accepted :
    wellFormed (.unknownCommand 0x00) = true ∧ wellFormed (.unknownCommand 0x08) = true ∧
      wellFormed (.unknownCommand 0xFF) = true := by decide

/-- R221: the codes are 0 to 3. -/
theorem test_wf_error_refused : wellFormed (.error 4) = false ∧ wellFormed (.error (-1)) = false := by decide

theorem test_wf_error_accepted : wellFormed (.error 0) = true ∧ wellFormed (.error 3) = true := by decide

/-- R5: the version is 1. -/
theorem test_wf_protocolVersion_refused :
    wellFormed (.protocolVersion 2) = false ∧ wellFormed (.protocolVersion 0) = false := by decide

theorem test_wf_protocolVersion_accepted : wellFormed (.protocolVersion 1) = true := by decide

/-- R208: a reported level is not negative. -/
theorem test_wf_batteryState_refused :
    wellFormed (.batteryState (-1)) = false ∧ wellFormed (.batteryState (-32768)) = false := by decide

theorem test_wf_batteryState_accepted :
    wellFormed (.batteryState 0) = true ∧ wellFormed (.batteryState 32767) = true := by decide

/-! ### Decoding: every constructor from a word written out from the spec's encoding -/

/-- K1. -/
theorem test_decode_noop : accepts (decodeRequest refA (frame [0x01] 0xB5)) .noop = true := by decide

/-- K2. -/
theorem test_decode_getProtocolVersion :
    accepts (decodeRequest refA (frame [0x02] 0x6D)) .getProtocolVersion = true := by decide

/-- K3. -/
theorem test_decode_getFeatures : accepts (decodeRequest refA (frame [0x03] 0xD8)) .getFeatures = true := by decide

/-- K6. -/
theorem test_decode_turnCar :
    accepts (decodeRequest refA (frame [0x04, 0x80, 0x00] 0x03)) (.turnCar (-32768)) = true := by decide

/-- K10. -/
theorem test_decode_adjustSpeed :
    accepts (decodeRequest refA (frame [0x05, 0x7F, 0xFF] 0x54)) (.adjustSpeed 32767) = true := by decide

/-- K12. -/
theorem test_decode_rotateCam :
    accepts (decodeRequest refA (frame [0x06, 0x00, 0x64, 0xFF, 0x9C] 0x75)) (.rotateCam 100 (-100)) = true := by decide

/-- K14. -/
theorem test_decode_getBatteryState :
    accepts (decodeRequest refA (frame [0x07] 0x02)) .getBatteryState = true := by decide

/-- S2. -/
theorem test_decode_unknownCommand :
    accepts (decodeRequest refA (frame [0x09] 0x06)) (.unknownCommand 0x09) = true := by decide

/-- K9: the bytes after the operand are ignored. -/
theorem test_decode_unused_bytes :
    accepts (decodeRequest refA
      [0x04, 0x12, 0x34, 0xDE, 0xAD, 0xBE, 0xEF, 0x01, 0x02, 0x03, 0x04, 0x05, 0x06, 0x07, 0x08, 0x51]) (.turnCar 4660) = true := by decide

/-- K19, K20, K21. -/
theorem test_decode_unknown_edges :
    accepts (decodeRequest refA (frame [0x00] 0x00)) (.unknownCommand 0x00) = true ∧
      accepts (decodeRequest refA (frame [0x08] 0xB3)) (.unknownCommand 0x08) = true ∧
      accepts (decodeRequest refA (frame [0xFF] 0x90)) (.unknownCommand 0xFF) = true := by decide

/-- Section 2.7. -/
theorem test_decode_ok : accepts (decodeResponse refA (frame [0x01] 0xB5)) .ok = true := by decide

/-- Section 2.7. -/
theorem test_decode_error :
    accepts (decodeResponse refA (frame [0x02, 0x00, 0x03] 0xD6)) (.error 3) = true := by decide

/-- Section 2.7. -/
theorem test_decode_batteryNearEmpty :
    accepts (decodeResponse refA (frame [0x03] 0xD8)) .batteryNearEmpty = true := by decide

/-- Section 2.7. -/
theorem test_decode_protocolVersion :
    accepts (decodeResponse refA (frame [0x04, 0x00, 0x01] 0x4E)) (.protocolVersion 1) = true := by decide

/-- Section 2.7. -/
theorem test_decode_features :
    accepts (decodeResponse refA (frame [0x05, 0x07, 0xFF, 0xA6, 0x00, 0x5A, 0xFF, 0xD3, 0x00, 0x2D] 0xC0)) (.features fullCar) = true := by decide

/-- Section 2.7. -/
theorem test_decode_batteryState :
    accepts (decodeResponse refA (frame [0x06, 0x30, 0x39] 0x90)) (.batteryState 12345) = true := by decide

/-- V3, R154: 15 bytes are no frame, nor are 17. -/
theorem test_decode_wrong_length :
    rejects (decodeRequest refA (List.replicate 15 0x00)) .wrongLength = true ∧
      rejects (decodeResponse refA (List.replicate 17 0x00)) .wrongLength = true := by decide

/-- V4: the last byte is corrupted. -/
theorem test_decode_wrong_checksum :
    rejects (decodeRequest refA (frame [0x01] 0xB4)) .wrongChecksum = true ∧
      rejects (decodeResponse refA (frame [0x01] 0xB4)) .wrongChecksum = true := by decide

/-- R85: 0x00 and 0x07 name no response; the checksums are those of K19 and K14. -/
theorem test_decode_not_a_response :
    rejects (decodeResponse refA (frame [0x00] 0x00)) .notAResponse = true ∧
      rejects (decodeResponse refA (frame [0x07] 0x02)) .notAResponse = true := by decide

/-- The frame of V12 in the response direction: nonzero bytes after the payload (log 16). -/
theorem test_decode_padding :
    rejects (decodeResponse refA
      [0x01, 0xAA, 0xAA, 0xAA, 0xAA, 0xAA, 0xAA, 0xAA, 0xAA, 0xAA, 0xAA, 0xAA, 0xAA, 0xAA, 0xAA, 0x57]) .paddingNotZero = true := by decide

/-- R83, R97: byte 1 is the high byte of the operand. -/
theorem test_decodeTableWord :
    decodeTableWord 24 0xFF7F05 = some (.adjustSpeed 32767) ∧ decodeTableWord 8 0x09 = some (.unknownCommand 9) := by decide

/-! ### Codec, payload lengths, checksum -/

/-- Section 2.3. -/
theorem test_i16_values :
    i16OfBytes 0x01 0x00 = 256 ∧ i16OfBytes 0x7F 0xFF = 32767 ∧ (i16OfBytes 0x80 0x00).toInt = -32768 ∧
      (i16OfBytes 0xFF 0x9C).toInt = -100 := by decide

/-- Section 2.3, position check. -/
theorem test_encodeI16_position :
    (Memory.bytes (encodeI16 4660 (zeroFill [] 0 16) 4 2 (by decide)) 0 16) =
      some [0, 0, 0, 0x12, 0x34, 0, 0, 0, 0, 0, 0, 0, 0, 0, 0, 0] := by decide

/-- Section 2.3, position check. -/
theorem test_decodeI16_position :
    decodeI16 (encodeI16 4660 (zeroFill [] 0 16) 4 2 (by decide)).read 4 2 (by decide) = some 4660 ∧
      decodeI16 (encodeI16 4660 (zeroFill [] 0 16) 4 2 (by decide)).read 4 1 (by decide) = some 18 := by decide

/-- Section 2.2, off-by-one check. -/
theorem test_payload_lengths :
    CommandId.payloadLength .turnCar = 2 ∧ CommandId.payloadLength .rotateCam = 4 ∧
      CommandId.payloadLength .getBatteryState = 0 ∧ ResponseId.payloadLength .features = 9 ∧
      ResponseId.payloadLength .batteryState = 2 := by decide

/-- Section 2.1. -/
theorem test_checksum_refA :
    checksum refA [] = 0x00 ∧ checksum refA [0x01, 0x02, 0x03] = 0x48 ∧ checksum refA (List.replicate 15 0xFF) = 0x03 := by decide

/-- Section 2.1. -/
theorem test_checksum_refB :
    checksum refB [0x80] = 0x8C ∧ checksum refB [0x01, 0x02, 0x03] = 0xD8 ∧ checksum refB (List.replicate 15 0xFF) = 0x88 := by decide

/-- Section 2.1: the register gives the running values after `05` and `05 7F` and the vectors of `01 02 03`. -/
theorem test_serial_register :
    serialStepA 0x00 0x05 = 0x1B ∧ serialStepA 0x1B 0x7F = 0x3B ∧ serialStepB 0x00 0x05 = 0x3F ∧
      serialStepB 0x3F 0x7F = 0x46 ∧ serialChecksum .msbFirst 0x07 0x00 [0x01, 0x02, 0x03] = 0x48 ∧
      serialChecksum .lsbFirst 0x8C 0x00 [0x01, 0x02, 0x03] = 0xD8 ∧
      serialChecksum .msbFirst 0x07 0xFF (0x01 :: List.replicate 14 0x00) = 0x25 := by decide

/-- Section 2.1, parameter check: CRC_INIT = 0xFF. -/
theorem test_checksum_init : checksum { refA with init := 0xFF } (0x01 :: List.replicate 14 0x00) = 0x25 := by decide

/-- Section 4: after a 10-byte poll RX[9] may be read, RX[10] holds no value. -/
theorem test_read_neighbours :
    (poll (machine 10 (frame [0x05, 0x01] 0x8A) calm)).rx.read 9 = some 0x00 ∧
      (poll (machine 10 (frame [0x05, 0x01] 0x8A) calm)).rx.read 10 = none := by decide

/-- Section 4: an offset of 1 in a 2-byte payload and of 3 in a 4-byte payload is outside, 0 and 2 are inside; the ids 0
and 8, and 0 and 7, name nothing. -/
theorem test_outside_payload :
    ¬ InPayload 2 1 ∧ InPayload 2 0 ∧ ¬ InPayload 4 3 ∧ InPayload 4 2 ∧
      CommandId.ofByte 0 = none ∧ CommandId.ofByte 8 = none ∧ CommandId.ofByte 7 = some .getBatteryState ∧
      ResponseId.ofByte 0 = none ∧ ResponseId.ofByte 7 = none ∧ ResponseId.ofByte 6 = some .batteryState := by decide

/-! ### One step for each command -/

/-- K1. -/
theorem test_step_noop :
    answers (machine 16 (frame [0x01] 0xB5) calm)
      (frame [0x01] 0xB5) [.answerBatteryNearEmpty] = true := by decide

/-- K2. -/
theorem test_step_getProtocolVersion :
    answers (machine 16 (frame [0x02] 0x6D) calm)
      (frame [0x04, 0x00, 0x01] 0x4E) [.answerBatteryNearEmpty] = true := by decide

/-- K3. -/
theorem test_step_getFeatures :
    answers (machine 16 (frame [0x03] 0xD8) { calm with features := { coming := [fullCar] } })
      (frame [0x05, 0x07, 0xFF, 0xA6, 0x00, 0x5A, 0xFF, 0xD3, 0x00, 0x2D] 0xC0) [.answerBatteryNearEmpty, .getFeatures] = true := by decide

/-- K5. -/
theorem test_step_getFeatures_extremes :
    answers (machine 16 (frame [0x03] 0xD8) { calm with features := { coming := [extremeCar] } })
      (frame [0x05, 0x05, 0x00, 0x00, 0x7F, 0xFF, 0x80] 0x60) [.answerBatteryNearEmpty, .getFeatures] = true := by decide

/-- K6. -/
theorem test_step_turnCar :
    answers (machine 16 (frame [0x04, 0x80, 0x00] 0x03) { calm with turnCar := { coming := [true] } })
      (frame [0x01] 0xB5) [.answerBatteryNearEmpty, .turnCar (-32768)] = true := by decide

/-- K7. -/
theorem test_step_turnCar_refused :
    answers (machine 16 (frame [0x04, 0xFF, 0xFF] 0x38) { calm with turnCar := { coming := [false] } })
      (frame [0x02, 0x00, 0x03] 0xD6) [.answerBatteryNearEmpty, .turnCar (-1)] = true := by decide

/-- S1, K10. -/
theorem test_step_adjustSpeed :
    answers (machine 16 (frame [0x05, 0x7F, 0xFF] 0x54) { calm with adjustSpeed := { coming := [true] } })
      (frame [0x01] 0xB5) [.answerBatteryNearEmpty, .adjustSpeed 32767] = true := by decide

/-- K11. -/
theorem test_step_adjustSpeed_refused :
    answers (machine 16 (frame [0x05, 0x01, 0x00] 0x8A) { calm with adjustSpeed := { coming := [false] } })
      (frame [0x02, 0x00, 0x03] 0xD6) [.answerBatteryNearEmpty, .adjustSpeed 256] = true := by decide

/-- K12. -/
theorem test_step_rotateCam :
    answers (machine 16 (frame [0x06, 0x00, 0x64, 0xFF, 0x9C] 0x75) { calm with rotateCam := { coming := [true] } })
      (frame [0x01] 0xB5) [.answerBatteryNearEmpty, .rotateCam 100 (-100)] = true := by decide

/-- K13. -/
theorem test_step_rotateCam_refused :
    answers (machine 16 (frame [0x06, 0x80, 0x00, 0x7F, 0xFF] 0xA0) { calm with rotateCam := { coming := [false] } })
      (frame [0x02, 0x00, 0x03] 0xD6) [.answerBatteryNearEmpty, .rotateCam (-32768) 32767] = true := by decide

/-- K14. -/
theorem test_step_getBatteryState :
    answers (machine 16 (frame [0x07] 0x02) { calm with batteryState := { coming := [12345] } })
      (frame [0x06, 0x30, 0x39] 0x90) [.answerBatteryNearEmpty, .getBatteryState] = true := by decide

/-- K17. -/
theorem test_step_getBatteryState_negative :
    answers (machine 16 (frame [0x07] 0x02) { calm with batteryState := { coming := [-1] } })
      (frame [0x02, 0x00, 0x03] 0xD6) [.answerBatteryNearEmpty, .getBatteryState] = true := by decide

/-- S2. -/
theorem test_step_unknownCommand :
    answers (machine 16 (frame [0x09] 0x06) calm)
      (frame [0x02, 0x00, 0x02] 0x42) [.answerBatteryNearEmpty] = true := by decide

/-- K21. -/
theorem test_step_unknownCommand_ff :
    answers (machine 16 (frame [0xFF] 0x90) calm)
      (frame [0x02, 0x00, 0x02] 0x42) [.answerBatteryNearEmpty] = true := by decide

/-! ### Validation and override -/

/-- V1. -/
theorem test_step_no_data : answers (machine 0 (frame [0x01] 0xB5) calm) [] [] = true := by decide

/-- V3. -/
theorem test_step_short_read :
    answers (machine 15 (frame [0x01] 0xB5) calm) (frame [0x02, 0x00, 0x01] 0xF9) [] = true := by decide

/-- V5, V6: the checksum goes before the command byte and before the battery query. -/
theorem test_step_bad_checksum :
    answers (machine 16 (frame [0x09] 0x07) critical) (frame [0x02, 0x00, 0x01] 0xF9) [] = true := by decide

/-- V10. -/
theorem test_step_override :
    answers (machine 16 (frame [0x04, 0x80, 0x00] 0x03) critical) (frame [0x03] 0xD8) [.answerBatteryNearEmpty] = true := by decide

/-- V11. -/
theorem test_step_override_unknown :
    answers (machine 16 (frame [0x09] 0x06) critical) (frame [0x03] 0xD8) [.answerBatteryNearEmpty] = true := by decide

/-! ### One step for each response: section 2.7 -/

theorem test_exec_ok : sends .ok (frame [0x01] 0xB5) = true := by decide

theorem test_exec_error : sends (.error 3) (frame [0x02, 0x00, 0x03] 0xD6) = true := by decide

theorem test_exec_batteryNearEmpty : sends .batteryNearEmpty (frame [0x03] 0xD8) = true := by decide

theorem test_exec_protocolVersion : sends (.protocolVersion 1) (frame [0x04, 0x00, 0x01] 0x4E) = true := by decide

theorem test_exec_features :
    sends (.features fullCar) (frame [0x05, 0x07, 0xFF, 0xA6, 0x00, 0x5A, 0xFF, 0xD3, 0x00, 0x2D] 0xC0) = true := by decide

theorem test_exec_batteryState : sends (.batteryState 12345) (frame [0x06, 0x30, 0x39] 0x90) = true := by decide

/-! ### Witnesses: for each statement with hypotheses, values that meet all of them together, at the ends of their ranges -/

/-- A Noop frame stands ready, the override answers false. -/
def noopReady : State := machine 16 (frame [0x01] 0xB5) calm

/-- A Noop frame stands ready, the override answers true. -/
def noopCritical : State := machine 16 (frame [0x01] 0xB5) critical

/-- The frame `d` captured in RX, in the Validating phase. -/
def captured (d : List Byte) : State :=
  { machine 0 [] calm with phase := .validating, rxlen := 16, rx := Memory.ofBytes d }

/-- The frame `d` captured in RX, in the Dispatching phase. -/
def dispatching (d : List Byte) (v : Vehicle) : State :=
  { machine 0 [] v with phase := .dispatching, rxlen := 16, rx := Memory.ofBytes d }

theorem witness_EncodedRequestsDecodeBack :
    (Instr.unknownCommand 0x00).isRequest = true ∧ wellFormed (.unknownCommand 0x00) = true ∧
      wellFormed (.unknownCommand 0x08) = true ∧ wellFormed (.unknownCommand 0xFF) = true ∧
      (Instr.rotateCam (-32768) 32767).isRequest = true ∧ wellFormed (.rotateCam (-32768) 32767) = true := by decide

theorem witness_EncodedResponsesDecodeBack :
    (Instr.error 3).isRequest = false ∧ wellFormed (.error 3) = true ∧ wellFormed (.error 0) = true ∧
      (Instr.batteryState 32767).isRequest = false ∧ wellFormed (.batteryState 32767) = true ∧
      wellFormed (.batteryState 0) = true ∧ wellFormed (.features extremeCar) = true ∧
      wellFormed (.protocolVersion 1) = true := by decide

theorem witness_ResponseFramesHaveOneMeaning :
    accepts (decodeResponse refA (frame [0x05, 0x05, 0x00, 0x00, 0x7F, 0xFF, 0x80] 0x60)) (.features extremeCar) = true := by
  decide

/-- Two valid frames of the command Noop that agree up to the declared payload and differ after it (K1, V12). -/
theorem witness_UnusedRequestBytesAreIgnored :
    let f := frame [0x01] 0xB5
    let g : List Byte :=
      [0x01, 0xAA, 0xAA, 0xAA, 0xAA, 0xAA, 0xAA, 0xAA, 0xAA, 0xAA, 0xAA, 0xAA, 0xAA, 0xAA, 0xAA, 0x57]
    f.length = 16 ∧ hasChecksum refA f = true ∧ g.length = 16 ∧ hasChecksum refA g = true ∧
      g.take (1 + declaredPayload (f.getD 0 0)) = f.take (1 + declaredPayload (f.getD 0 0)) ∧ f ≠ g := by decide

theorem witness_DecodedCommandsAreWellFormed :
    decodeCommand (byteOf [0x08]) = some (.unknownCommand 0x08) ∧
      decodeCommand (byteOf [0x06, 0x80, 0x00, 0x7F, 0xFF]) = some (.rotateCam (-32768) 32767) := by decide

theorem witness_OperandsStandWhereDeclared :
    (byteOf [0x04, 0x80, 0x00] 0 = some 0x04 ∧ byteOf [0x04, 0x80, 0x00] 1 = some 0x80 ∧
      byteOf [0x04, 0x80, 0x00] 2 = some 0x00) ∧
    (byteOf [0x05, 0x7F, 0xFF] 0 = some 0x05 ∧ byteOf [0x05, 0x7F, 0xFF] 1 = some 0x7F ∧
      byteOf [0x05, 0x7F, 0xFF] 2 = some 0xFF) ∧
    (byteOf [0x06, 0x80, 0x00, 0x7F, 0xFF] 0 = some 0x06 ∧ byteOf [0x06, 0x80, 0x00, 0x7F, 0xFF] 1 = some 0x80 ∧
      byteOf [0x06, 0x80, 0x00, 0x7F, 0xFF] 2 = some 0x00 ∧ byteOf [0x06, 0x80, 0x00, 0x7F, 0xFF] 3 = some 0x7F ∧
      byteOf [0x06, 0x80, 0x00, 0x7F, 0xFF] 4 = some 0xFF) ∧
    ((0x03 : Byte) ≠ 0x04 ∧ (0x03 : Byte) ≠ 0x05 ∧ (0x03 : Byte) ≠ 0x06 ∧ byteOf [0x03] 0 = some 0x03) ∧
    ((0x07 : Byte) ≠ 0x04 ∧ (0x07 : Byte) ≠ 0x05 ∧ (0x07 : Byte) ≠ 0x06 ∧ byteOf [0x07] 0 = some 0x07) := by decide

/-- The first and the last payload offset a frame has. -/
theorem witness_EncodeDecodeI16RoundTrip :
    InPayload 2 0 ∧ InPayload 9 7 ∧ InPayload 14 12 ∧
      decodeI16 (Memory.ofBytes (frame [0x04, 0x80, 0x00] 0x03)).read 14 0 (by decide) = some (-32768) ∧
      decodeI16 (Memory.ofBytes (frame [0x04, 0x80, 0x00] 0x03)).read 14 12 (by decide) = some 0 := by decide

/-- Both ends of the buffer, at both widths. -/
theorem witness_MemReadAfterMemWrite :
    let m := Memory.ofBytes (frame [0x05, 0x7F, 0xFF] 0x54)
    (0 ≠ (15 : Fin 16).val ∧ 15 ≠ (0 : Fin 16).val) ∧ (15 ≠ (0 : Fin 15).val ∧ 15 ≠ (0 : Fin 15).val + 1) ∧
      (m.read (0 : Fin 15).val = some 0x05 ∧ m.read ((0 : Fin 15).val + 1) = some 0x7F) ∧
      (m.read (14 : Fin 15).val = some 0x00 ∧ m.read ((14 : Fin 15).val + 1) = some 0x54) := by decide

theorem witness_FeaturePayloadBytes : (0 = 0 ∨ 9 < 0) ∧ (10 = 0 ∨ 9 < 10) ∧ (15 = 0 ∨ 9 < 15) := by decide

/-- SerialRegisterEqualsTable: a table built in each way, with start values 0x00 and 0xFF, and a state that holds one. -/
theorem witness_SerialRegisterEqualsTable :
    (polynomialRom .msbFirst 0x07 0x00).BuiltFrom .msbFirst 0x07 ∧
      (polynomialRom .lsbFirst 0x8C 0xFF).BuiltFrom .lsbFirst 0x8C ∧
      ({ noopReady with rom := polynomialRom .lsbFirst 0x8C 0xFF } : State).rom.BuiltFrom .lsbFirst 0x8C :=
  ⟨polynomialRom_builtFrom _ _ _, polynomialRom_builtFrom _ _ _, polynomialRom_builtFrom _ _ _⟩

/-- A poll of all 16 bytes and one of none. -/
theorem witness_PollDeliversOldestBytes :
    (0 < noopReady.pollBytes.length ∧ 15 < noopReady.pollBytes.length ∧ noopReady.pollBytes.length ≤ 16) ∧
    (noopReady.transport.connected = true ∧ 16 ≤ 16 ∧ 16 ≤ noopReady.transport.queue.length ∧
      noopReady.transport.polls.coming = 16 :: []) ∧
    ((machine 0 [] calm).transport.connected = true ∧ 0 ≤ (machine 0 [] calm).transport.queue.length ∧
      (machine 0 [] calm).transport.polls.coming = 0 :: []) := by decide

/-- Disconnected with a frame waiting; connected with none offered. -/
theorem witness_NoDataIsNoOp :
    let cut : State := { noopReady with transport := { noopReady.transport with connected := false } }
    let none := machine 0 (frame [0x01] 0xB5) calm
    (cut.phase = .idle ∧ cut.transport.connected = false ∧ cut.pollBytes = []) ∧
      (none.phase = .idle ∧ none.transport.connected = true ∧ none.pollBytes = []) := by decide

/-- One byte, 15 bytes, and 16 bytes with a wrong checksum (V2, V3, V4). -/
theorem witness_InvalidFrameIsAnswered :
    let one := machine 1 (frame [0x01] 0xB5) calm
    let fifteen := machine 15 (frame [0x01] 0xB5) calm
    let wrong := machine 16 (frame [0x01] 0xB4) critical
    (one.phase = .idle ∧ one.pollBytes ≠ [] ∧ validFrame one.rom one.pollBytes = false) ∧
      (fifteen.phase = .idle ∧ fifteen.pollBytes ≠ [] ∧ validFrame fifteen.rom fifteen.pollBytes = false) ∧
      (wrong.phase = .idle ∧ wrong.pollBytes ≠ [] ∧ validFrame wrong.rom wrong.pollBytes = false) := by decide

/-- A known and an unknown command (V8, V11), and an invalid frame (V6). -/
theorem witness_OverrideAnswersEveryValidFrame :
    let unknown := machine 16 (frame [0x09] 0x06) critical
    let wrong := machine 16 (frame [0x01] 0xB4) critical
    (noopCritical.phase = .idle ∧ validFrame noopCritical.rom noopCritical.pollBytes = true ∧
      noopCritical.nearEmptyAnswer = true) ∧
      (unknown.phase = .idle ∧ validFrame unknown.rom unknown.pollBytes = true ∧ unknown.nearEmptyAnswer = true) ∧
      (wrong.phase = .idle ∧ validFrame wrong.rom wrong.pollBytes = false) := by decide

theorem witness_StepRunsDecodedInstruction :
    let turn := machine 16 (frame [0x04, 0x80, 0x00] 0x03) calm
    (noopReady.phase = .idle ∧ accepts (decodeRequest noopReady.rom noopReady.pollBytes) .noop = true ∧
      noopReady.nearEmptyAnswer = false) ∧
      (turn.phase = .idle ∧ accepts (decodeRequest turn.rom turn.pollBytes) (.turnCar (-32768)) = true ∧
        turn.nearEmptyAnswer = false) := by decide

/-- A word of one byte, and one of the whole frame's 128 bits. -/
theorem witness_FetchWordRunsItsInstruction :
    decodeTableWord 8 0x04 = some (.turnCar 0) ∧ decodeTableWord 128 0x000006 = some (.rotateCam 0 0) := by decide

/-- One state for each row of the table. -/
theorem witness_PhaseTransitions :
    ((machine 0 [] calm).phase = .idle ∧ (machine 0 [] calm).pollCount = 0) ∧
    (noopReady.phase = .idle ∧ noopReady.pollCount ≠ 0) ∧
    ({ captured [] with rxlen := 15 }.phase = .validating ∧ { captured [] with rxlen := 15 }.rxlen.val ≠ 16) ∧
    ((captured (frame [0x01] 0xB4)).phase = .validating ∧ (captured (frame [0x01] 0xB4)).rxlen.val = 16 ∧
      (captured (frame [0x01] 0xB4)).rx = Memory.ofBytes (frame [0x01] 0xB4) ∧
      (frame [0x01] 0xB4).length = 16 ∧ hasChecksum refA (frame [0x01] 0xB4) = false) ∧
    ((captured (frame [0x01] 0xB5)).phase = .validating ∧ (captured (frame [0x01] 0xB5)).rxlen.val = 16 ∧
      (captured (frame [0x01] 0xB5)).rx = Memory.ofBytes (frame [0x01] 0xB5) ∧
      (frame [0x01] 0xB5).length = 16 ∧ hasChecksum refA (frame [0x01] 0xB5) = true) ∧
    ((dispatching (frame [0x01] 0xB5) critical).phase = .dispatching ∧
      (dispatching (frame [0x01] 0xB5) critical).nearEmptyAnswer = true) ∧
    ((dispatching (frame [0x01] 0xB5) calm).phase = .dispatching ∧
      (dispatching (frame [0x01] 0xB5) calm).nearEmptyAnswer = false ∧
      (dispatching (frame [0x01] 0xB5) calm).rx = Memory.ofBytes (frame [0x01] 0xB5)) ∧
    ({ noopReady with phase := .responding }.phase = .responding) := by decide

theorem witness_commands_without_operands :
    byteOf (frame [0x01] 0xB5) 0 = some 0x01 ∧ byteOf (frame [0x02] 0x6D) 0 = some 0x02 ∧
      byteOf (frame [0x03] 0xD8) 0 = some 0x03 ∧ byteOf (frame [0x07] 0x02) 0 = some 0x07 := by decide

/-- TurnCarActuates: both answers. -/
theorem witness_TurnCarActuates :
    (machine 0 [] { calm with turnCar := { coming := [true] } }).turnCarAnswer = true ∧
      (machine 0 [] { calm with turnCar := { coming := [false] } }).turnCarAnswer = false ∧
      byteOf [0x04, 0x80, 0x00] 0 = some 0x04 ∧ byteOf [0x04, 0x80, 0x00] 1 = some 0x80 ∧
      byteOf [0x04, 0x80, 0x00] 2 = some 0x00 := by decide

/-- AdjustSpeedActuates: both answers. -/
theorem witness_AdjustSpeedActuates :
    (machine 0 [] { calm with adjustSpeed := { coming := [true] } }).adjustSpeedAnswer = true ∧
      (machine 0 [] { calm with adjustSpeed := { coming := [false] } }).adjustSpeedAnswer = false ∧
      byteOf [0x05, 0x7F, 0xFF] 0 = some 0x05 ∧ byteOf [0x05, 0x7F, 0xFF] 1 = some 0x7F ∧
      byteOf [0x05, 0x7F, 0xFF] 2 = some 0xFF := by decide

/-- RotateCamActuates: both answers. -/
theorem witness_RotateCamActuates :
    (machine 0 [] { calm with rotateCam := { coming := [true] } }).rotateCamAnswer = true ∧
      (machine 0 [] { calm with rotateCam := { coming := [false] } }).rotateCamAnswer = false ∧
      byteOf [0x06, 0x80, 0x00, 0x7F, 0xFF] 0 = some 0x06 ∧ byteOf [0x06, 0x80, 0x00, 0x7F, 0xFF] 1 = some 0x80 ∧
      byteOf [0x06, 0x80, 0x00, 0x7F, 0xFF] 2 = some 0x00 ∧ byteOf [0x06, 0x80, 0x00, 0x7F, 0xFF] 3 = some 0x7F ∧
      byteOf [0x06, 0x80, 0x00, 0x7F, 0xFF] 4 = some 0xFF := by decide

/-- GetBatteryStateReportsOrFails: the levels 0 and 32767, -1 and -32768. -/
theorem witness_GetBatteryStateReportsOrFails :
    let level (v : I16) := machine 0 [] { calm with batteryState := { coming := [v] } }
    0 ≤ (level 0).batteryStateAnswer.toInt ∧ 0 ≤ (level 32767).batteryStateAnswer.toInt ∧
      (level (-1)).batteryStateAnswer.toInt < 0 ∧ (level (-32768)).batteryStateAnswer.toInt < 0 := by decide

/-- UnknownCommandRaisesError: 0x00, 0x08 and 0xFF. -/
theorem witness_UnknownCommandRaisesError :
    (byteOf [0x00] 0 = some 0x00 ∧ ((0x00 : Byte) = 0 ∨ 8 ≤ (0x00 : Byte).toNat)) ∧
      (byteOf [0x08] 0 = some 0x08 ∧ ((0x08 : Byte) = 0 ∨ 8 ≤ (0x08 : Byte).toNat)) ∧
      (byteOf [0xFF] 0 = some 0xFF ∧ ((0xFF : Byte) = 0 ∨ 8 ≤ (0xFF : Byte).toNat)) := by decide

/-- RequestsChangeOnlyTheirRegisters: a request whose answer is no Error, and one whose answer is. -/
theorem witness_RequestsChangeOnlyTheirRegisters :
    (∃ t, Instr.noop.isRequest = true ∧ exec .noop noopReady = .next t ∧ t.rsp ≠ .error ∧ Instr.noop ≠ .getFeatures) ∧
      (∃ t, (Instr.unknownCommand 0xFF).isRequest = true ∧ exec (.unknownCommand 0xFF) noopReady = .next t ∧
        t.rsp = .error) :=
  ⟨⟨_, rfl, rfl, by decide, by decide⟩, ⟨_, rfl, rfl, rfl⟩⟩

theorem witness_BatteryStateFrame : 0 ≤ (0 : I16).toInt ∧ 0 ≤ (32767 : I16).toInt := by decide

/-- ResponsesChangeOnlyFrameAndPhase, ResponsesAreStamped: a response from the reset state, whose TX is canonical. -/
theorem witness_ResponsesChangeOnlyFrameAndPhase :
    Instr.ok.isRequest = false ∧ sends .ok (frame [0x01] 0xB5) = true ∧ noopReady.tx.wf = true := by decide

/-- ResponsesAreZeroFilled: the first and the last byte after the payload, for the shortest and the longest payload, and
another state with the same ROM. -/
theorem witness_ResponsesAreZeroFilled :
    (responseIdOf .ok = some .ok ∧ ResponseId.payloadLength .ok < 1 ∧ 1 ≤ 14) ∧
      (responseIdOf (.features fullCar) = some .features ∧ ResponseId.payloadLength .features < 10 ∧ 10 ≤ 14) ∧
      (ResponseId.payloadLength .features < 14 ∧ 14 ≤ 14) ∧
      (noopCritical.rom = noopReady.rom ∧ noopCritical ≠ noopReady) := by decide

theorem witness_idle : noopReady.phase = .idle ∧ noopCritical.phase = .idle := by decide

/-- MissingCommandByteFaults: an RX that lists nothing. -/
theorem witness_MissingCommandByteFaults :
    (dispatching [] calm).phase = .dispatching ∧ (dispatching [] calm).nearEmptyAnswer = false ∧
      (dispatching [] calm).rx.read 0 = none := by decide

/-- ShortReadsAreLostAndAnswered: the first invocation of program P4, whose second read is short too. -/
theorem witness_ShortReadsAreLostAndAnswered :
    let s : State := { machine 10 (frame [0x05, 0x01, 0x00] 0x8A) calm with
      transport := { queue := frame [0x05, 0x01, 0x00] 0x8A, polls := { coming := [10, 6] } } }
    (s.phase = .idle ∧ s.pollBytes ≠ [] ∧ s.pollBytes.length < 16) ∧
      (match step s with
        | .next t => decide (t.pollBytes ≠ []) && decide (t.pollBytes.length < 16)
        | .fault _ => false
        | .refused _ => false) = true := by decide

/-- InvocationEndsInIdle, StepsNeverWriteTheRom, StepsKeepBuffersCanonical: a step from a canonical state that answers a
next state. -/
theorem witness_steps :
    BuffersCanonical noopReady ∧ answers noopReady (frame [0x01] 0xB5) [.answerBatteryNearEmpty] = true :=
  ⟨⟨by decide, by decide⟩, test_step_noop⟩

/-- StepsKeepSentStreamLegal: a state whose sent stream holds one Error frame. -/
theorem witness_StepsKeepSentStreamLegal :
    QuietAndLegal { noopReady with transport := { noopReady.transport with sent := frame [0x02, 0x00, 0x01] 0xF9 } } :=
  ⟨by decide, [.error 1], by decide, by decide⟩

/-- NothingCarriesOverBetweenInvocations: two states in Idle that differ in registers, signals and buffers. -/
theorem witness_NothingCarriesOverBetweenInvocations :
    let other : State := { noopReady with
      crc := 0x5A, cmd := 0x07, arg0 := -1, res := 3, rsp := .error, opok := true, ovr := true,
      rx := Memory.ofBytes [0x07], tx := Memory.ofBytes (frame [0x02, 0x00, 0x03] 0xD6) }
    noopReady.phase = .idle ∧ other.phase = .idle ∧ noopReady ≠ other ∧ SameOutside noopReady other :=
  ⟨by decide, by decide, by decide, rfl, rfl, rfl⟩

end Sys2Proof.Tests
end

/-! The rules of the operations that the proofs about whole steps share: what a request does to the state, what the end
of a response leaves, and which instructions the multiplexer can answer. -/

namespace Sys2Proof.Machine

/-! ### The end of a response -/

@[simp] theorem afterSending_phase (s : State) (frame : List Byte) : (afterSending s frame).phase = .idle := rfl
@[simp] theorem afterSending_rx (s : State) (frame : List Byte) : (afterSending s frame).rx = s.rx := rfl
@[simp] theorem afterSending_tx (s : State) (frame : List Byte) : (afterSending s frame).tx = Memory.ofBytes frame := rfl
@[simp] theorem afterSending_rom (s : State) (frame : List Byte) : (afterSending s frame).rom = s.rom := rfl
@[simp] theorem afterSending_vehicle (s : State) (frame : List Byte) : (afterSending s frame).vehicle = s.vehicle := rfl
@[simp] theorem afterSending_transport (s : State) (frame : List Byte) :
    (afterSending s frame).transport = { s.transport with sent := s.transport.sent ++ frame } := rfl

/-! ### Sequencing -/

/-- A sequence answers a next state only through a next state of its first part. -/
theorem andThen_eq_next {o : Host.Outcome State Fault Refusal} {f : State → Host.Outcome State Fault Refusal} {t : State}
    (h : andThen o f = .next t) : ∃ u, o = .next u ∧ f u = .next t := by
  cases o with
  | next u => exact ⟨u, rfl, h⟩
  | fault r => cases h
  | refused r => cases h

/-! ### The requests -/

/-- The end of an actuation in one equation: OPOK decides the response, and an error leaves its code in RES (R184). -/
theorem answerActuation_eq (s : State) : answerActuation s = { s with
    phase := .responding
    rsp := if s.opok then .ok else .error
    res := if s.opok then s.res else 3 } := by
  cases h : s.opok <;> simp [answerActuation, h, answer, raiseError, ErrorId.code]

/-- GetBatteryState in one equation: the sign of the level decides the response (R187). -/
theorem execGetBatteryState_eq (s : State) : execGetBatteryState s = .next { callGetBatteryState s with
    phase := .responding
    opok := decide (0 ≤ s.batteryStateAnswer.toInt)
    rsp := if 0 ≤ s.batteryStateAnswer.toInt then .batteryState else .error
    res := if 0 ≤ s.batteryStateAnswer.toInt then s.batteryStateAnswer else 3 } := by
  by_cases h : 0 ≤ s.batteryStateAnswer.toInt <;>
    simp [execGetBatteryState, setOpOkFromLevel, h, answer, raiseError, ErrorId.code]

/-- What every request leaves as it was, and the phase it ends in (R180; the write columns of R22 and R26). -/
structure RequestFrame (s t : State) : Prop where
  phase : t.phase = .responding
  crc : t.crc = s.crc
  rxlen : t.rxlen = s.rxlen
  cmd : t.cmd = s.cmd
  nodata : t.nodata = s.nodata
  lenok : t.lenok = s.lenok
  crcok : t.crcok = s.crcok
  ovr : t.ovr = s.ovr
  rx : t.rx = s.rx
  tx : t.tx = s.tx
  rom : t.rom = s.rom
  transport : t.transport = s.transport

/-- Every request answers a next state inside its frame (R180, R222). -/
theorem exec_request_next (i : Instr) (s : State) (hi : i.isRequest = true) :
    ∃ t, exec i s = .next t ∧ RequestFrame s t := by
  match i with
  | .noop | .getProtocolVersion | .getFeatures | .unknownCommand _ => exact ⟨_, rfl, by constructor <;> rfl⟩
  | .turnCar _ | .adjustSpeed _ | .rotateCam _ _ =>
    exact ⟨_, rfl, by rw [answerActuation_eq]; constructor <;> rfl⟩
  | .getBatteryState => exact ⟨_, execGetBatteryState_eq s, by constructor <;> rfl⟩

theorem exec_request_frame {i : Instr} {s t : State} (hi : i.isRequest = true) (h : exec i s = .next t) :
    RequestFrame s t := by
  obtain ⟨u, hu, hframe⟩ := exec_request_next i s hi
  cases hu.symm.trans h
  exact hframe

/-! ### What a request writes -/

/-- RES after an actuation: as before, or the code of ProcessCommandError (R184). -/
theorem answerActuation_res (s : State) :
    ((answerActuation s).rsp ≠ .error → (answerActuation s).res = s.res) ∧
      ((answerActuation s).rsp = .error → (answerActuation s).res = 2 ∨ (answerActuation s).res = 3) := by
  rw [answerActuation_eq]
  cases s.opok <;> simp

/-- FEAT, ARG1, ARG0 and OPOK change only in the requests whose rule writes them (R183 to R187). -/
theorem exec_request_operands {i : Instr} {s t : State} (hi : i.isRequest = true) (h : exec i s = .next t) :
    (i ≠ .getFeatures → t.feat = s.feat) ∧
      ((∀ p q, i ≠ .rotateCam p q) → t.arg1 = s.arg1) ∧
      ((∀ p q, i ≠ .rotateCam p q) → (∀ r, i ≠ .turnCar r) → (∀ v, i ≠ .adjustSpeed v) → t.arg0 = s.arg0) ∧
      ((∀ p q, i ≠ .rotateCam p q) → (∀ r, i ≠ .turnCar r) → (∀ v, i ≠ .adjustSpeed v) → i ≠ .getBatteryState →
        t.opok = s.opok) := by
  match i with
  | .noop | .getProtocolVersion | .getFeatures | .unknownCommand _ =>
    cases h
    simp
  | .turnCar _ | .adjustSpeed _ | .rotateCam _ _ =>
    cases h
    simp [answerActuation_eq]
  | .getBatteryState =>
    cases (execGetBatteryState_eq s).symm.trans h
    simp

/-- RES changes only with a version, a level or an error code, which is 2 or 3 (R182, R187, R222). -/
theorem exec_request_res {i : Instr} {s t : State} (hi : i.isRequest = true) (h : exec i s = .next t) :
    (i ≠ .getProtocolVersion → i ≠ .getBatteryState → t.rsp ≠ .error → t.res = s.res) ∧
      (t.rsp = .error → t.res = 2 ∨ t.res = 3) := by
  match i with
  | .noop | .getProtocolVersion | .getFeatures =>
    cases h
    simp
  | .unknownCommand _ =>
    cases h
    simp [ErrorId.code]
  | .turnCar _ | .adjustSpeed _ | .rotateCam _ _ =>
    cases h
    exact ⟨fun _ _ => (answerActuation_res _).1, (answerActuation_res _).2⟩
  | .getBatteryState =>
    cases (execGetBatteryState_eq s).symm.trans h
    by_cases hlevel : 0 ≤ s.batteryStateAnswer.toInt <;> simp [hlevel]

/-! ### What comes in stays, and only requests are decoded -/

/-- What came in is as in `s`: RX, the ROM and the transport. -/
def SameInput (s u : State) : Prop := u.rx = s.rx ∧ u.rom = s.rom ∧ u.transport = s.transport

theorem RequestFrame.sameInput {s t : State} (h : RequestFrame s t) : SameInput s t := ⟨h.rx, h.rom, h.transport⟩

/-- The multiplexer answers requests only (R139, R180). -/
theorem decodeArm_isRequest {c : Byte} {rd : Nat → Option Byte} {i : Instr} (h : decodeArm c rd = some i) :
    i.isRequest = true := by
  obtain ⟨_, ha⟩ | ⟨_, _, _, j, hj, _, ha⟩ | ⟨_, _, _, mk, hmk, ha⟩ | hc := decodeArm_cases c rd
  · cases ha.symm.trans h
    rfl
  · cases (ha rd).symm.trans h
    exact hj
  · obtain ⟨v, _, rfl⟩ := Option.map_eq_some_iff.mp ((ha rd).symm.trans h)
    exact (hmk v).1
  · simp only [decodeArm, hc] at h
    split at h <;> cases h
    rfl

theorem decodeCommand_isRequest {rd : Nat → Option Byte} {i : Instr} (h : decodeCommand rd = some i) :
    i.isRequest = true := by
  simp only [decodeCommand] at h
  split at h
  · exact decodeArm_isRequest h
  · cases h

/-! ### What a step does, from any phase -/

/-- `t` is a state with the inputs of `s`, after the response that its registers selected. -/
def RespondsTo (s t : State) : Prop :=
  ∃ u : State, SameInput s u ∧ t = afterSending u (encode u.rom (responseOf u))

theorem RespondsTo.of_sameInput {s s' t : State} (h : RespondsTo s' t) (hs : SameInput s s') : RespondsTo s t := by
  obtain ⟨u, ⟨hrx, hrom, htr⟩, ht⟩ := h
  obtain ⟨hrx', hrom', htr'⟩ := hs
  exact ⟨u, ⟨hrx.trans hrx', hrom.trans hrom', htr.trans htr'⟩, ht⟩

theorem fromResponding_respondsTo {s t : State} (h : fromResponding s = .next t) : RespondsTo s t := by
  rw [fromResponding_next] at h
  cases h
  exact ⟨s, ⟨rfl, rfl, rfl⟩, rfl⟩

/-- The hand-over runs a request, and nothing that came in changes. -/
theorem dispatch_sameInput {s u : State} (h : dispatch s = .next u) : SameInput s u := by
  simp only [dispatch] at h
  split at h
  next =>
    split at h
    next hi => exact (exec_request_frame (decodeArm_isRequest hi) h).sameInput
    next => cases h
  next => cases h

theorem fromDispatching_respondsTo {s t : State} (h : fromDispatching s = .next t) : RespondsTo s t := by
  cases hn : s.nearEmptyAnswer with
  | true =>
    rw [fromDispatching_override s hn] at h
    exact (fromResponding_respondsTo h).of_sameInput ⟨rfl, rfl, rfl⟩
  | false =>
    rw [fromDispatching_command s hn] at h
    obtain ⟨u, hu, ht⟩ := andThen_eq_next h
    have hinput : SameInput (setOvr s) u := dispatch_sameInput hu
    exact (fromResponding_respondsTo ht).of_sameInput hinput

theorem checkChecksum_respondsTo {s t : State} (h : checkChecksum s = .next t) : RespondsTo s t := by
  simp only [checkChecksum, setCrcOk, runChecksum_eq] at h
  split at h
  next =>
    split at h
    · exact (fromDispatching_respondsTo h).of_sameInput ⟨rfl, rfl, rfl⟩
    · exact (fromResponding_respondsTo h).of_sameInput ⟨rfl, rfl, rfl⟩
  next => cases h

theorem fromValidating_respondsTo {s t : State} (h : fromValidating s = .next t) : RespondsTo s t := by
  simp only [fromValidating] at h
  split at h
  · exact (checkChecksum_respondsTo h).of_sameInput ⟨rfl, rfl, rfl⟩
  · exact (fromResponding_respondsTo h).of_sameInput ⟨rfl, rfl, rfl⟩

/-- All that a step can do, from any phase: it ends an invocation whose poll was empty (R153), or it answers the bytes
captured before or those of its own poll. -/
theorem step_next {s t : State} (h : step s = .next t) :
    t = setNoData (poll s) ∨ RespondsTo s t ∨ RespondsTo (poll s) t := by
  simp only [step] at h
  split at h
  next =>
    by_cases hc : s.pollCount = 0
    · rw [fromIdle_noData s hc] at h
      cases h
      exact .inl rfl
    · rw [fromIdle_data s hc] at h
      exact .inr (.inr ((fromValidating_respondsTo h).of_sameInput ⟨rfl, rfl, rfl⟩))
  next => exact .inr (.inl (fromValidating_respondsTo h))
  next => exact .inr (.inl (fromDispatching_respondsTo h))
  next => exact .inr (.inl (fromResponding_respondsTo h))

theorem RespondsTo.rom_connected {s t : State} (h : RespondsTo s t) :
    t.rom = s.rom ∧ t.transport.connected = s.transport.connected := by
  obtain ⟨u, ⟨_, hrom, htr⟩, rfl⟩ := h
  exact ⟨hrom, by simp [htr]⟩

/-- A response keeps RX as it was and leaves a whole frame in TX. -/
theorem RespondsTo.buffersCanonical {s t : State} (h : RespondsTo s t) (hwf : s.rx.wf = true) : BuffersCanonical t := by
  obtain ⟨u, ⟨hrx, _, _⟩, rfl⟩ := h
  exact ⟨by simp [hrx, hwf], wf_ofBytes _ (encode_length _ _).le⟩

theorem wf_poll_rx (s : State) : (poll s).rx.wf = true := wf_ofBytes _ (pollBytes_length_le s)

/-! ### What two runs share -/

/-- The end of an actuation depends on OPOK alone. -/
theorem answerActuation_congr {s t : State} (hveh : s.vehicle = t.vehicle) (hop : s.opok = t.opok) :
    (answerActuation s).vehicle = (answerActuation t).vehicle ∧
      responseOf (answerActuation s) = responseOf (answerActuation t) := by
  simp only [answerActuation_eq, hop]
  cases t.opok <;> exact ⟨hveh, rfl⟩

/-- What a request does to the vehicle, and the response it selects, depend on the vehicle alone. -/
theorem exec_request_congr {i : Instr} {s t u v : State} (hi : i.isRequest = true) (hu : exec i s = .next u)
    (hv : exec i t = .next v) (hveh : s.vehicle = t.vehicle) :
    u.vehicle = v.vehicle ∧ responseOf u = responseOf v := by
  match i with
  | .noop | .getProtocolVersion | .unknownCommand _ =>
    cases hu; cases hv
    exact ⟨hveh, rfl⟩
  | .getFeatures =>
    cases hu; cases hv
    simp [responseOf, hveh, State.featuresAnswer]
  | .turnCar _ =>
    cases hu; cases hv
    exact answerActuation_congr (by simp [hveh]) (turnCarAnswer_congr (congrArg Vehicle.turnCar hveh))
  | .adjustSpeed _ =>
    cases hu; cases hv
    exact answerActuation_congr (by simp [hveh]) (adjustSpeedAnswer_congr (congrArg Vehicle.adjustSpeed hveh))
  | .rotateCam _ _ =>
    cases hu; cases hv
    exact answerActuation_congr (by simp [hveh]) (rotateCamAnswer_congr (congrArg Vehicle.rotateCam hveh))
  | .getBatteryState =>
    have hlevel := batteryStateAnswer_congr (congrArg Vehicle.batteryState hveh)
    cases (execGetBatteryState_eq s).symm.trans hu
    cases (execGetBatteryState_eq t).symm.trans hv
    by_cases h : 0 ≤ t.batteryStateAnswer.toInt <;> simp [responseOf, hveh, hlevel, h]

/-- Both outcomes are next states in Idle that agree on the ROM, the transport and the vehicle. -/
def EndAlike (o o' : Host.Outcome State Fault Refusal) : Prop :=
  ∃ s t, o = .next s ∧ o' = .next t ∧ s.phase = .idle ∧ t.phase = .idle ∧ SameOutside s t

theorem fromResponding_endAlike {s t : State} (h : SameOutside s t) (hr : responseOf s = responseOf t) :
    EndAlike (fromResponding s) (fromResponding t) := by
  obtain ⟨hrom, htr, hveh⟩ := h
  exact ⟨_, _, fromResponding_next s, fromResponding_next t, rfl, rfl, hrom, by simp [hrom, htr, hr], hveh⟩

theorem setOvr_sameOutside {s t : State} (h : SameOutside s t) : SameOutside (setOvr s) (setOvr t) := by
  obtain ⟨hrom, htr, hveh⟩ := h
  exact ⟨hrom, htr, by simp [hveh]⟩

theorem poll_sameOutside {s t : State} (h : SameOutside s t) : SameOutside (poll s) (poll t) := by
  obtain ⟨hrom, htr, hveh⟩ := h
  exact ⟨hrom, by simp [poll, pollCount_congr htr, htr], hveh⟩

/-- On one captured frame of 16 bytes the command runs alike, whatever the registers hold. -/
theorem dispatch_endAlike {s t : State} (d : List Byte) (hd : d.length = 16) (hs : s.rx = Memory.ofBytes d)
    (ht : t.rx = Memory.ofBytes d) (h : SameOutside s t) :
    EndAlike (andThen (dispatch s) fromResponding) (andThen (dispatch t) fromResponding) := by
  obtain ⟨hrom, htr, hveh⟩ := h
  obtain ⟨i, hcmd, _⟩ := decodeCommand_of_sixteen d hd
  have hi := decodeCommand_isRequest hcmd
  rw [dispatch_ofBytes s d hd hs i hcmd, dispatch_ofBytes t d hd ht i hcmd]
  obtain ⟨u, hu, huf⟩ := exec_request_next i { s with cmd := d.getD 0 0 } hi
  obtain ⟨v, hv, hvf⟩ := exec_request_next i { t with cmd := d.getD 0 0 } hi
  obtain ⟨hcalls, hresp⟩ := exec_request_congr hi hu hv hveh
  obtain ⟨_, hurom, hutr⟩ := huf.sameInput
  obtain ⟨_, hvrom, hvtr⟩ := hvf.sameInput
  rw [hu, hv]
  exact fromResponding_endAlike ⟨by simp [hurom, hvrom, hrom], by simp [hutr, hvtr, htr], hcalls⟩ hresp

theorem fromDispatching_endAlike {s t : State} (d : List Byte) (hd : d.length = 16) (hs : s.rx = Memory.ofBytes d)
    (ht : t.rx = Memory.ofBytes d) (h : SameOutside s t) : EndAlike (fromDispatching s) (fromDispatching t) := by
  have ⟨_, _, hveh⟩ := h
  have hn : s.nearEmptyAnswer = t.nearEmptyAnswer := nearEmptyAnswer_congr (congrArg Vehicle.nearEmpty hveh)
  cases hb : t.nearEmptyAnswer with
  | true =>
    rw [fromDispatching_override s (hn.trans hb), fromDispatching_override t hb]
    exact fromResponding_endAlike (setOvr_sameOutside h) rfl
  | false =>
    rw [fromDispatching_command s (hn.trans hb), fromDispatching_command t hb]
    exact dispatch_endAlike d hd hs ht (setOvr_sameOutside h)

/-- One invocation: what it sends and calls is decided by the ROM, the transport and the vehicle. The cases are those of
the poll: nothing, a short read, a whole frame with a wrong or a right checksum. -/
theorem step_endAlike {s t : State} (hs : s.phase = .idle) (ht : t.phase = .idle) (h : SameOutside s t) :
    EndAlike (step s) (step t) := by
  have hpoll := poll_sameOutside h
  obtain ⟨hrom, htr, hveh⟩ := h
  have hbytes : s.pollBytes = t.pollBytes := pollBytes_congr htr
  by_cases hnone : t.pollBytes = []
  · rw [step_of_idle hs, step_of_idle ht, fromIdle_noData s (pollCount_eq_zero (hbytes.trans hnone)),
      fromIdle_noData t (pollCount_eq_zero hnone)]
    exact ⟨_, _, rfl, rfl, hs, ht, hpoll⟩
  by_cases hlen : t.pollBytes.length = 16
  · rw [step_idle_full hs (hbytes ▸ hlen), step_idle_full ht hlen, hrom, hbytes]
    split
    · exact fromDispatching_endAlike t.pollBytes hlen (congrArg Memory.ofBytes hbytes) rfl hpoll
    · exact fromResponding_endAlike hpoll rfl
  · rw [step_idle_short hs (hbytes ▸ hnone) (hbytes ▸ hlen), step_idle_short ht hnone hlen]
    exact fromResponding_endAlike hpoll rfl

/-- An invocation always completes: its outcome is alike to itself. -/
theorem step_idle_next {s : State} (hs : s.phase = .idle) : ∃ t, step s = .next t ∧ t.phase = .idle := by
  obtain ⟨t, _, ht, _, htp, _, _⟩ := step_endAlike hs hs ⟨rfl, rfl, rfl⟩
  exact ⟨t, ht, htp⟩

theorem run_succ_of_step {s t : State} (h : step s = .next t) (k : Nat) : core.run (k + 1) s = core.run k t := by
  have hc : core.step s = .next t := h
  simp only [Host.Core.run, hc]

/-! ### The obligations -/

/-- Settles O49, by induction on the number of invocations: each one ends two states that agree outside in two states
that agree outside. -/
theorem nothingCarriesOverBetweenInvocations : Obligations.NothingCarriesOverBetweenInvocations := by
  unfold Obligations.NothingCarriesOverBetweenInvocations
  intro k
  induction k with
  | zero => exact fun s t _ _ h => ⟨s, t, rfl, rfl, h⟩
  | succ k ih =>
    intro s t hs ht h
    obtain ⟨s₁, t₁, hs₁, ht₁, hsp, htp, h₁⟩ := step_endAlike hs ht h
    rw [run_succ_of_step hs₁, run_succ_of_step ht₁]
    exact ih s₁ t₁ hsp htp h₁

/-- Settles O51: RX is kept or taken from a poll of at most 16 bytes, TX is kept or holds one whole frame. -/
theorem stepsKeepBuffersCanonical : Obligations.StepsKeepBuffersCanonical := by
  unfold Obligations.StepsKeepBuffersCanonical
  intro s t ⟨hrx, htx⟩ hstep
  obtain rfl | h | h := step_next hstep
  · exact ⟨wf_poll_rx s, htx⟩
  · exact h.buffersCanonical hrx
  · exact h.buffersCanonical (wf_poll_rx s)

/-- Settles O30: the frame of every request, and the two lemmas on the registers some of them write. -/
theorem requestsChangeOnlyTheirRegisters : Obligations.RequestsChangeOnlyTheirRegisters := by
  unfold Obligations.RequestsChangeOnlyTheirRegisters
  intro i s t hi h
  have hf : RequestFrame s t := exec_request_frame hi h
  obtain ⟨hfeat, harg1, harg0, hopok⟩ := exec_request_operands hi h
  obtain ⟨hres, herror⟩ := exec_request_res hi h
  exact ⟨hf.phase, hf.crc, hf.rxlen, hf.cmd, hf.nodata, hf.lenok, hf.crcok, hf.ovr, hf.rom, hf.transport,
    fun a => by rw [hf.rx], fun a => by rw [hf.tx], hfeat, harg1, harg0, hopok, hres, herror⟩

/-- Settles O50: a poll writes neither, and a response keeps the ROM and the transport it was given, sent bytes aside. -/
theorem stepsNeverWriteTheRom : Obligations.StepsNeverWriteTheRom := by
  unfold Obligations.StepsNeverWriteTheRom
  intro s t hstep
  obtain rfl | h | h := step_next hstep
  · exact ⟨rfl, rfl⟩
  · exact h.rom_connected
  · exact h.rom_connected

/-- Settles O42: the hand-over faults on an RX without byte 0, and from Idle every invocation completes. -/
theorem missingCommandByteFaults : Obligations.MissingCommandByteFaults := by
  unfold Obligations.MissingCommandByteFaults
  constructor
  · intro s hs hn h0
    have hread : memRead1 (setOvr s).rx 0 = none := h0
    simp only [step, hs, fromDispatching_command s hn, dispatch, hread, andThen]
  · intro s r hs hfault
    obtain ⟨t, ht, _⟩ := step_idle_next hs
    cases ht.symm.trans hfault

/-- Settles O53: nothing has been sent, and both buffers list nothing. -/
theorem resetMeetsTheInvariants : Obligations.ResetMeetsTheInvariants :=
  ⟨⟨rfl, [], by simp, rfl⟩, wf_nil, wf_nil⟩

/-- Settles O54: both buffers list nothing. -/
theorem resetIsIdleWithEmptyBuffers : Obligations.ResetIsIdleWithEmptyBuffers :=
  ⟨rfl, fun a => ⟨read_nil a, read_nil a⟩⟩

end Sys2Proof.Machine

/-! The frame buffers and the request: what a two-byte access reads and writes, and what one invocation leaves of the bytes
its poll delivered. -/

namespace Sys2Proof.Machine

/-! ### Two-byte accesses -/

/-- A two-byte read joins its bytes, the first one most significant (R56). -/
theorem memRead2_of_read {m : Memory} {i : Fin 15} {h l : Byte} (hh : m.read i.val = some h)
    (hl : m.read (i.val + 1) = some l) : memRead2 m i = some (i16OfBytes h l) := by
  simp only [memRead2, hh, hl, i16OfBytes]

/-- A two-byte write sets byte `i` to the high byte and byte `i + 1` to the low byte (R57). -/
theorem read_memWrite2 (m : Memory) (i : Fin 15) (v : BitVec 16) (a : Nat) : (memWrite2 m i v).read a =
    if i.val + 1 = a then some (loByte v) else if i.val = a then some (hiByte v) else m.read a := by
  have hwrite : memWrite2 m i v = (m.write i.val (hiByte v)).write (i.val + 1) (loByte v) := rfl
  rw [hwrite, read_write, read_write]

theorem read_memWrite2_high (m : Memory) (i : Fin 15) (v : BitVec 16) :
    (memWrite2 m i v).read i.val = some (hiByte v) := by simp [read_memWrite2]

theorem read_memWrite2_low (m : Memory) (i : Fin 15) (v : BitVec 16) :
    (memWrite2 m i v).read (i.val + 1) = some (loByte v) := by simp [read_memWrite2]

/-- A two-byte read after a write at the same index gives the value written. -/
theorem memRead2_memWrite2 (m : Memory) (i : Fin 15) (v : BitVec 16) : memRead2 (memWrite2 m i v) i = some v := by
  rw [memRead2_of_read (read_memWrite2_high m i v) (read_memWrite2_low m i v), i16OfBytes_hi_lo]

/-! ### The request of one invocation -/

/-- The waiting bytes are those the poll delivers, then those it leaves waiting (R62, R152). -/
theorem pollBytes_append_queue (s : State) : s.pollBytes ++ (poll s).transport.queue = s.transport.queue :=
  List.take_append_drop _ _

/-- All that an invocation can do: it ends after an empty poll (R153), or it answers the bytes of its own poll. -/
theorem step_idle_cases {s t : State} (hs : s.phase = .idle) (h : step s = .next t) :
    t = setNoData (poll s) ∨ RespondsTo (poll s) t := by
  rw [step_of_idle hs] at h
  by_cases hc : s.pollCount = 0
  · rw [fromIdle_noData s hc] at h
    cases h
    exact .inl rfl
  · rw [fromIdle_data s hc] at h
    exact .inr ((fromValidating_respondsTo h).of_sameInput ⟨rfl, rfl, rfl⟩)

/-- A response keeps RX and the bytes waiting in the transport. -/
theorem RespondsTo.rx_queue {s t : State} (h : RespondsTo s t) :
    t.rx = s.rx ∧ t.transport.queue = s.transport.queue := by
  obtain ⟨u, ⟨hrx, _, htr⟩, rfl⟩ := h
  exact ⟨hrx, by simp [htr]⟩

/-- An invocation touches RX and the waiting bytes by its one poll alone (R69). -/
theorem step_idle_rx_queue {s t : State} (hs : s.phase = .idle) (h : step s = .next t) :
    t.rx = (poll s).rx ∧ t.transport.queue = (poll s).transport.queue := by
  obtain rfl | hr := step_idle_cases hs h
  · exact ⟨rfl, rfl⟩
  · exact hr.rx_queue

/-! ### The obligations -/

/-- Settles O9: each clause is the rule of its access, at its width. -/
theorem memReadAfterMemWrite : Obligations.MemReadAfterMemWrite := by
  unfold Obligations.MemReadAfterMemWrite
  refine fun m => ⟨fun i v => ⟨read_write_same m i.val v, fun a ha => read_write_other m v ha.symm⟩,
    fun i v => ⟨memRead2_memWrite2 m i v, read_memWrite2_high m i v, read_memWrite2_low m i v, fun a ha ha' => ?_⟩,
    fun _ => rfl, fun i h l hh hl => ⟨_, memRead2_of_read hh hl, i16OfBytes_toNat h l⟩⟩
  rw [read_memWrite2, if_neg (Ne.symm ha'), if_neg (Ne.symm ha)]

/-- Settles O45: after the poll nothing in the invocation writes RX or takes a waiting byte. -/
theorem requestIsCapturedByOnePoll : Obligations.RequestIsCapturedByOnePoll := by
  unfold Obligations.RequestIsCapturedByOnePoll
  intro s hs
  obtain ⟨t, ht, _⟩ := step_idle_next hs
  obtain ⟨hrx, hqueue⟩ := step_idle_rx_queue hs ht
  refine ⟨t, ht, fun a => ?_, ?_⟩
  · rw [hrx, poll_rx, read_ofBytes]
  · rw [hqueue, pollBytes_append_queue]

end Sys2Proof.Machine

/-! The frame codec: which byte sequences the two decoders accept, the bytes each of them reads, and the round trips. -/

namespace Sys2Proof

/-! ### The byte that names a row -/

/-- A byte 0 names a command exactly when it is that command's code (R82). -/
theorem CommandId.ofByte_eq_some_iff {b : Byte} {c : CommandId} : CommandId.ofByte b = some c ↔ b = c.code := by
  constructor
  · intro h
    simp only [CommandId.ofByte] at h
    split at h <;> cases h <;> exact BitVec.eq_of_toNat_eq ‹_›
  · rintro rfl
    cases c <;> rfl

/-- The bytes that name no command are those of the unknown command (R90). -/
theorem CommandId.ofByte_eq_none_iff {b : Byte} : CommandId.ofByte b = none ↔ isUnknownCommandByte b = true := by
  simp only [CommandId.ofByte, isUnknownCommandByte, decide_eq_true_eq]
  split
  case h_8 =>
    simp only [imp_false, true_iff] at *
    omega
  all_goals
    simp only [reduceCtorEq, false_iff]
    omega

/-- A byte 0 names a response exactly when it is that response's code (R85). -/
theorem ResponseId.ofByte_eq_some_iff {b : Byte} {r : ResponseId} : ResponseId.ofByte b = some r ↔ b = r.code := by
  constructor
  · intro h
    simp only [ResponseId.ofByte] at h
    split at h <;> cases h <;> exact BitVec.eq_of_toNat_eq ‹_›
  · rintro rfl
    cases r <;> rfl

end Sys2Proof

namespace Sys2Proof.Machine

/-! ### The checksum byte -/

theorem hasChecksum_stamped (rom : CrcRom) (body : List Byte) (h : body.length = 15) :
    hasChecksum rom (stamped rom body) = true := by
  simp only [hasChecksum, coveredBytes_stamped rom body h, decide_eq_true_eq]
  simp [byteOf, stamped, h]

theorem hasChecksum_encode (rom : CrcRom) (i : Instr) : hasChecksum rom (encode rom i) = true :=
  hasChecksum_stamped rom _ (encodeBody_length i)

/-- A frame with a correct checksum is its covered bytes, stamped (R155). -/
theorem stamped_coveredBytes {rom : CrcRom} {f : List Byte} (hf : f.length = 16) (hc : hasChecksum rom f = true) :
    stamped rom (coveredBytes f) = f := by
  have hlast : f[15] = checksum rom (coveredBytes f) := by
    simpa [hasChecksum, byteOf, hf] using hc
  rw [stamped, ← hlast, coveredBytes, List.take_append_getElem, List.take_of_length_le hf.le]

/-! ### The bytes a request decodes from -/

theorem decodeCommand_of_byte {rd : Nat → Option Byte} {c : Byte} (h : rd 0 = some c) :
    decodeCommand rd = decodeArm c rd := by simp only [decodeCommand, h]

/-- A command with one operand takes it from bytes 1 and 2 (R83). -/
theorem decodeCommand_of_operand {rd : Nat → Option Byte} {c h l : Byte} {mk : I16 → Instr} (h0 : rd 0 = some c)
    (harm : decodeArm c rd = (decodeI16 rd 2 0 (by decide)).map mk) (h1 : rd 1 = some h) (h2 : rd 2 = some l) :
    decodeCommand rd = some (mk (i16OfBytes h l)) := by
  rw [decodeCommand_of_byte h0, harm, decodeI16_some h1 h2, Option.map_some]

theorem decodeCommand_turnCar {rd : Nat → Option Byte} {h l : Byte} (h0 : rd 0 = some 0x04) (h1 : rd 1 = some h)
    (h2 : rd 2 = some l) : decodeCommand rd = some (.turnCar (i16OfBytes h l)) :=
  decodeCommand_of_operand h0 rfl h1 h2

theorem decodeCommand_adjustSpeed {rd : Nat → Option Byte} {h l : Byte} (h0 : rd 0 = some 0x05) (h1 : rd 1 = some h)
    (h2 : rd 2 = some l) : decodeCommand rd = some (.adjustSpeed (i16OfBytes h l)) :=
  decodeCommand_of_operand h0 rfl h1 h2

/-- RotateCam takes pan from bytes 1 and 2, tilt from bytes 3 and 4 (R83). -/
theorem decodeCommand_rotateCam {rd : Nat → Option Byte} {h l h' l' : Byte} (h0 : rd 0 = some 0x06)
    (h1 : rd 1 = some h) (h2 : rd 2 = some l) (h3 : rd 3 = some h') (h4 : rd 4 = some l') :
    decodeCommand rd = some (.rotateCam (i16OfBytes h l) (i16OfBytes h' l')) := by
  have hid : CommandId.ofByte 0x06 = some .rotateCam := rfl
  rw [decodeCommand_of_byte h0]
  simp only [decodeArm, hid, decodeI16_some (o := 0) h1 h2, decodeI16_some (o := 2) h3 h4]

/-- Only the three commands with operands declare a payload (R83, R130). -/
theorem declaredPayload_eq_zero {c : Byte} (h4 : c ≠ 0x04) (h5 : c ≠ 0x05) (h6 : c ≠ 0x06) :
    declaredPayload c = 0 := by
  simp only [declaredPayload]
  cases hid : CommandId.ofByte c with
  | none => rfl
  | some id =>
    have hc : c = id.code := CommandId.ofByte_eq_some_iff.mp hid
    cases id with
    | turnCar => exact absurd hc h4
    | adjustSpeed => exact absurd hc h5
    | rotateCam => exact absurd hc h6
    | noop | getProtocolVersion | getFeatures | getBatteryState => rfl

/-- A command without a payload is decoded from its byte 0 alone. -/
theorem decodeArm_of_no_payload {c : Byte} (h : declaredPayload c = 0) : ∃ i, ∀ rd, decodeArm c rd = some i := by
  obtain ⟨hid, _⟩ | ⟨_, _, _, i, _, _, ha⟩ | ⟨_, hid, hp, _⟩ | hid := decodeArm_cases c fun _ => none
  · exact ⟨.unknownCommand c, fun rd => by simp only [decodeArm, hid]⟩
  · exact ⟨i, ha⟩
  · simp [declaredPayload, hid, hp] at h
  · simp only [declaredPayload, hid] at h
    cases h

/-- The multiplexer reads no byte behind the declared payload (R83, R91). -/
theorem decodeArm_congr_declared {rd rd' : Nat → Option Byte} {c : Byte}
    (h : ∀ k, k ≤ declaredPayload c → rd k = rd' k) : decodeArm c rd = decodeArm c rd' := by
  obtain ⟨hid, _⟩ | ⟨_, _, _, _, _, _, ha⟩ | ⟨_, hid, hp, _, _, ha⟩ | hid := decodeArm_cases c rd
  · simp only [decodeArm, hid]
  · rw [ha, ha]
  · simp only [declaredPayload, hid, hp] at h
    rw [ha, ha]
    simp only [decodeI16, Nat.add_zero, h 1 (by omega), h 2 (by omega)]
  · have hp : declaredPayload c = 4 := by simp only [declaredPayload, hid]; rfl
    exact decodeArm_congr (fun k _ hk => h k (by omega)) c

theorem decodeCommand_congr_declared {rd rd' : Nat → Option Byte} {c : Byte} (h0 : rd 0 = some c)
    (h : ∀ k, k ≤ declaredPayload c → rd k = rd' k) : decodeCommand rd = decodeCommand rd' := by
  rw [decodeCommand_of_byte h0, decodeCommand_of_byte ((h 0 (Nat.zero_le _)).symm.trans h0), decodeArm_congr_declared h]

/-- Sequences that agree on their first `n` bytes agree on each of them. -/
theorem byteOf_eq_of_take_eq {f g : List Byte} {n k : Nat} (h : g.take n = f.take n) (hk : k < n) :
    byteOf g k = byteOf f k := by
  rw [byteOf, byteOf, ← List.getElem?_take_of_lt hk, h, List.getElem?_take_of_lt hk]

/-! ### What the multiplexer answers -/

theorem decodeArm_wellFormed {c : Byte} {rd : Nat → Option Byte} {i : Instr} (h : decodeArm c rd = some i) :
    wellFormed i = true := by
  obtain ⟨hid, ha⟩ | ⟨_, _, _, j, _, hj, ha⟩ | ⟨_, _, _, mk, hmk, ha⟩ | hid := decodeArm_cases c rd
  · cases ha.symm.trans h
    exact CommandId.ofByte_eq_none_iff.mp hid
  · cases (ha rd).symm.trans h
    exact hj
  · obtain ⟨v, _, rfl⟩ := Option.map_eq_some_iff.mp ((ha rd).symm.trans h)
    exact (hmk v).2
  · simp only [decodeArm, hid] at h
    split at h <;> cases h
    rfl

theorem decodeCommand_wellFormed {rd : Nat → Option Byte} {i : Instr} (h : decodeCommand rd = some i) :
    wellFormed i = true := by
  simp only [decodeCommand] at h
  split at h
  · exact decodeArm_wellFormed h
  · cases h

/-! ### When a request is accepted, and as what -/

/-- A valid frame decodes to its command, whatever the checksum byte is (R157, R180). -/
theorem decodeRequest_of_checksum {rom : CrcRom} {f : List Byte} {i : Instr} (hf : f.length = 16)
    (hc : hasChecksum rom f = true) (h : decodeCommand (byteOf f) = some i) : decodeRequest rom f = .ok i := by
  simp only [decodeRequest, Config.requestSize, hf, hc, h, if_true]

/-- The multiplexer reads a well-formed request back from its frame body, whatever byte follows. -/
theorem decodeCommand_encodeBody (i : Instr) (c : Byte) (hi : i.isRequest = true) (hw : wellFormed i = true) :
    decodeCommand (byteOf (encodeBody i ++ [c])) = some i := by
  cases i with
  | noop | getProtocolVersion | getFeatures | getBatteryState => rfl
  | turnCar v => rw [decodeCommand_turnCar (h := hiByte v) (l := loByte v) rfl rfl rfl, i16OfBytes_hi_lo]
  | adjustSpeed v => rw [decodeCommand_adjustSpeed (h := hiByte v) (l := loByte v) rfl rfl rfl, i16OfBytes_hi_lo]
  | rotateCam p t =>
    rw [decodeCommand_rotateCam (h := hiByte p) (l := loByte p) (h' := hiByte t) (l' := loByte t) rfl rfl rfl rfl rfl,
      i16OfBytes_hi_lo, i16OfBytes_hi_lo]
  | unknownCommand cmd =>
    have hid : CommandId.ofByte cmd = none := CommandId.ofByte_eq_none_iff.mpr hw
    rw [decodeCommand_of_byte (c := cmd) rfl]
    simp only [decodeArm, hid]
  | ok | error | batteryNearEmpty | protocolVersion | features | batteryState => cases hi

/-! ### The flags byte -/

/-- A flags byte below 8 is made of its three low bits (R87, R92). -/
theorem flagsByte_of_bits {f : CarFeatures} {b : Byte} (hb : b.toNat < 8) (h0 : f.adjustableSpeed = b.getLsbD 0)
    (h1 : f.driveBackward = b.getLsbD 1) (h2 : f.batteryPower = b.getLsbD 2) : flagsByte f = b := by
  simp only [flagsByte, h0, h1, h2]
  clear h0 h1 h2
  revert b
  decide

/-! ### When a response is accepted, and as what -/

/-- The response decoder accepts 16 bytes with their checksum, a response's code and zero padding (R85, R92, R93). -/
theorem decodeResponse_eq_ok_iff {rom : CrcRom} {f : List Byte} {i : Instr} : decodeResponse rom f = .ok i ↔
    f.length = 16 ∧ hasChecksum rom f = true ∧ ∃ r : ResponseId,
      f.getD 0 0 = r.code ∧ hasZeroPadding r f = true ∧ decodeReply r (byteOf f) = some i := by
  simp only [← ResponseId.ofByte_eq_some_iff, decodeResponse]
  constructor
  · intro h
    split at h
    case isFalse => cases h
    case isTrue hf =>
    split at h
    case isFalse => cases h
    case isTrue hc =>
    split at h
    case h_1 => cases h
    case h_2 r hr =>
    split at h
    case isFalse => cases h
    case isTrue hz =>
    split at h <;> cases h
    exact ⟨hf, hc, r, hr, hz, ‹_›⟩
  · rintro ⟨hf, hc, r, hr, hz, hi⟩
    simp only [Config.responseSize, hf, hc, hr, hz, hi, if_true]

/-- The frame body of a response names it, has zero padding and gives the payload back, whatever byte follows. -/
theorem decodeReply_encodeBody (i : Instr) (c : Byte) (hi : i.isRequest = false) :
    ∃ r : ResponseId, (encodeBody i ++ [c]).getD 0 0 = r.code ∧ hasZeroPadding r (encodeBody i ++ [c]) = true ∧
      decodeReply r (byteOf (encodeBody i ++ [c])) = some i := by
  cases i with
  | ok => exact ⟨.ok, rfl, rfl, rfl⟩
  | error v => exact ⟨.error, rfl, rfl, congrArg (fun w => some (Instr.error w)) (i16OfBytes_hi_lo v)⟩
  | batteryNearEmpty => exact ⟨.batteryNearEmpty, rfl, rfl, rfl⟩
  | protocolVersion v =>
    exact ⟨.protocolVersion, rfl, rfl, congrArg (fun w => some (Instr.protocolVersion w)) (i16OfBytes_hi_lo v)⟩
  | batteryState v =>
    exact ⟨.batteryState, rfl, rfl, congrArg (fun w => some (Instr.batteryState w)) (i16OfBytes_hi_lo v)⟩
  | features f =>
    obtain ⟨h0, h1, h2, hlt⟩ := flagsByte_bits f
    refine ⟨.features, rfl, decide_eq_true hlt, ?_⟩
    have hread : decodeReply .features (byteOf (encodeBody (.features f) ++ [c])) = some (.features {
        adjustableSpeed := (flagsByte f).getLsbD 0
        driveBackward := (flagsByte f).getLsbD 1
        batteryPower := (flagsByte f).getLsbD 2
        panMin := i16OfBytes (hiByte f.panMin) (loByte f.panMin)
        panMax := i16OfBytes (hiByte f.panMax) (loByte f.panMax)
        tiltMin := i16OfBytes (hiByte f.tiltMin) (loByte f.tiltMin)
        tiltMax := i16OfBytes (hiByte f.tiltMax) (loByte f.tiltMax) }) := rfl
    simp only [hread, h0, h1, h2, i16OfBytes_hi_lo]
  | noop | getProtocolVersion | getFeatures | turnCar | adjustSpeed | rotateCam | getBatteryState | unknownCommand =>
    cases hi

/-- The payload bytes of a response frame. -/
def payloadBytes (r : ResponseId) (f : List Byte) : List Byte := (f.drop 1).take r.payloadLength

/-- Zero padding leaves the type byte and the payload to say what the body is (R52, R92). -/
theorem coveredBytes_of_zeroPadding {r : ResponseId} {f : List Byte} (hf : f.length = 16) (h0 : f.getD 0 0 = r.code)
    (hz : hasZeroPadding r f = true) : coveredBytes f = frameBody r.code (payloadBytes r f) := by
  obtain ⟨b, rest, rfl⟩ := List.exists_cons_of_length_eq_add_one hf
  have hp : r.payloadLength ≤ 14 := by cases r <;> decide
  have hrest : rest.length = 15 := Nat.succ.inj hf
  have hb : b = r.code := h0
  have hlen : (rest.take r.payloadLength).length = r.payloadLength := List.length_take_of_le (by omega)
  have hpad : (rest.take 14).drop r.payloadLength = List.replicate (14 - r.payloadLength) 0 := by
    simp only [hasZeroPadding, Bool.and_eq_true, List.all_eq_true, beq_iff_eq, Nat.add_comm 1] at hz
    obtain ⟨hzero, _⟩ := hz
    exact List.eq_replicate_iff.mpr ⟨by simp [hrest], hzero⟩
  calc coveredBytes (b :: rest) = b :: rest.take 14 := rfl
    _ = b :: ((rest.take 14).take r.payloadLength ++ (rest.take 14).drop r.payloadLength) := by
      rw [List.take_append_drop]
    _ = frameBody r.code (rest.take r.payloadLength) := by
      rw [hpad, List.take_take, Nat.min_eq_left hp, hb]
      simp only [frameBody, hlen, List.cons_append]

/-- A response that is read from a frame is encoded as the payload it was read from. -/
theorem encodeBody_of_decodeReply {r : ResponseId} {f : List Byte} {i : Instr} (hf : f.length = 16)
    (hz : hasZeroPadding r f = true) (h : decodeReply r (byteOf f) = some i) :
    encodeBody i = frameBody r.code (payloadBytes r f) := by
  obtain ⟨b0, b1, b2, b3, b4, b5, b6, b7, b8, b9, b10, b11, b12, b13, b14, b15, rfl⟩ := sixteen_bytes f hf
  cases r <;> cases h
  case features =>
    have hb1 : b1.toNat < 8 := by
      simp only [hasZeroPadding, Bool.and_eq_true, Bool.or_eq_true, decide_eq_true_eq] at hz
      exact hz.2.resolve_left (· rfl)
    simp only [encodeBody, featureBytes, i16Bytes, hiByte_i16OfBytes, loByte_i16OfBytes]
    rw [flagsByte_of_bits hb1 rfl rfl rfl]
    rfl
  case ok | batteryNearEmpty => rfl
  all_goals
    simp only [encodeBody, i16Bytes, hiByte_i16OfBytes, loByte_i16OfBytes]
    rfl

/-! ### The obligations -/

/-- Settles O2: the frame is stamped, and the multiplexer reads the request back from its body. -/
theorem encodedRequestsDecodeBack : Obligations.EncodedRequestsDecodeBack := by
  unfold Obligations.EncodedRequestsDecodeBack
  intro rom i hi hw
  exact decodeRequest_of_checksum (encode_length rom i) (hasChecksum_encode rom i) (decodeCommand_encodeBody i _ hi hw)

/-- Settles O3: the frame is stamped, and its body names the response and gives the payload back. -/
theorem encodedResponsesDecodeBack : Obligations.EncodedResponsesDecodeBack := by
  unfold Obligations.EncodedResponsesDecodeBack
  intro rom i hi _
  exact decodeResponse_eq_ok_iff.mpr
    ⟨encode_length rom i, hasChecksum_encode rom i, decodeReply_encodeBody i _ hi⟩

/-- Settles O4: the checksum fixes byte 15, and type byte, payload and zero padding fix the bytes before it. -/
theorem responseFramesHaveOneMeaning : Obligations.ResponseFramesHaveOneMeaning := by
  unfold Obligations.ResponseFramesHaveOneMeaning
  intro rom f i h
  obtain ⟨hf, hc, r, h0, hz, hi⟩ := decodeResponse_eq_ok_iff.mp h
  have hbody : encodeBody i = coveredBytes f := by
    rw [encodeBody_of_decodeReply hf hz hi, coveredBytes_of_zeroPadding hf h0 hz]
  calc encode rom i = stamped rom (encodeBody i) := rfl
    _ = stamped rom (coveredBytes f) := by rw [hbody]
    _ = f := stamped_coveredBytes hf hc

/-- Settles O5: sixteen bytes always give a command, read from the command byte and the declared payload. -/
theorem unusedRequestBytesAreIgnored : Obligations.UnusedRequestBytesAreIgnored := by
  unfold Obligations.UnusedRequestBytesAreIgnored
  intro rom f hf hc
  obtain ⟨i, hi, _⟩ := decodeCommand_of_sixteen f hf
  refine ⟨i, decodeRequest_of_checksum hf hc hi, fun g hg hgc htake => decodeRequest_of_checksum hg hgc ?_⟩
  have h0 : byteOf f 0 = some (f.getD 0 0) := by simp [byteOf, hf]
  rw [← hi]
  exact (decodeCommand_congr_declared h0 fun k hk => (byteOf_eq_of_take_eq htake (by omega)).symm).symm

/-- Settles O6: each arm of the multiplexer answers a well-formed request. -/
theorem decodedCommandsAreWellFormed : Obligations.DecodedCommandsAreWellFormed := by
  unfold Obligations.DecodedCommandsAreWellFormed
  exact fun rd i h => ⟨decodeCommand_isRequest h, decodeCommand_wellFormed h⟩

/-- Settles O1: the rule of each command at the bytes written out. -/
theorem writtenOutRequestsDecode : Obligations.WrittenOutRequestsDecode := by
  unfold Obligations.WrittenOutRequestsDecode
  refine fun cc => ⟨rfl, decodeCommand_turnCar (h := 0x12) (l := 0x34) rfl rfl rfl,
    decodeCommand_adjustSpeed (h := 0x7F) (l := 0xFF) rfl rfl rfl, ?_, rfl⟩
  have htilt : i16OfBytes 0xFF 0x9C = -100 := by decide
  rw [← htilt]
  exact decodeCommand_rotateCam (h := 0x00) (l := 0x64) rfl rfl rfl rfl rfl

/-- Settles O7: the three commands with operands have their own rules, every other one declares no payload. -/
theorem operandsStandWhereDeclared : Obligations.OperandsStandWhereDeclared := by
  unfold Obligations.OperandsStandWhereDeclared
  refine ⟨fun rd h l h1 h2 =>
      ⟨fun h0 => decodeCommand_turnCar h0 h1 h2, fun h0 => decodeCommand_adjustSpeed h0 h1 h2⟩,
    fun rd h l h' l' h0 h1 h2 h3 h4 => decodeCommand_rotateCam h0 h1 h2 h3 h4, fun c h4 h5 h6 => ?_⟩
  obtain ⟨i, hi⟩ := decodeArm_of_no_payload (declaredPayload_eq_zero h4 h5 h6)
  exact ⟨i, fun rd h0 => (decodeCommand_of_byte h0).trans (hi rd)⟩

end Sys2Proof.Machine

/-! The checksum: the printed reference tables as entries built from their polynomials, and the table-driven function as
the bit-serial register (40_checksum.md R110 to R119). -/

namespace Sys2Proof.Machine

/-! ### Tables as lists of entries -/

/-- Entries `k` to `k + n - 1` of the table built from a polynomial (R118). -/
def builtEntries (order : BitOrder) (poly : Byte) (k n : Nat) : List Byte :=
  (List.range' k n).map fun i => eightTimes (shiftBy order poly) (BitVec.ofNat 8 i)

theorem builtEntries_append {order : BitOrder} {poly : Byte} {k m j n : Nat} (h : k + m = j) :
    builtEntries order poly k m ++ builtEntries order poly j n = builtEntries order poly k (m + n) := by
  simp only [builtEntries, ← h, ← List.map_append, List.range'_append_1]

/-- A table that lists the 256 built entries in order is built from the polynomial. -/
theorem builtFrom_of_toList {rom : CrcRom} {order : BitOrder} {poly : Byte}
    (h : rom.table.toList = builtEntries order poly 0 256) : rom.BuiltFrom order poly := by
  intro i
  have hi : i.toNat < rom.table.toList.length := by simpa using i.isLt
  calc rom.lookup i = rom.table.toList[i.toNat] := (Vector.getElem_toList hi).symm
    _ = eightTimes (shiftBy order poly) i := by simp [h, builtEntries]

/-! ### The printed tables -/

theorem refARows_eq_builtEntries :
    refARows0 = builtEntries .msbFirst 0x07 0 64 ∧ refARows1 = builtEntries .msbFirst 0x07 64 64 ∧
      refARows2 = builtEntries .msbFirst 0x07 128 64 ∧ refARows3 = builtEntries .msbFirst 0x07 192 64 :=
  ⟨by decide, by decide, by decide, by decide⟩

theorem refBRows_eq_builtEntries :
    refBRows0 = builtEntries .lsbFirst 0x8C 0 64 ∧ refBRows1 = builtEntries .lsbFirst 0x8C 64 64 ∧
      refBRows2 = builtEntries .lsbFirst 0x8C 128 64 ∧ refBRows3 = builtEntries .lsbFirst 0x8C 192 64 :=
  ⟨by decide, by decide, by decide, by decide⟩

theorem refA_builtFrom : refA.BuiltFrom .msbFirst 0x07 := by
  obtain ⟨h0, h1, h2, h3⟩ := refARows_eq_builtEntries
  apply builtFrom_of_toList
  calc refA.table.toList = refARows0 ++ refARows1 ++ refARows2 ++ refARows3 := rfl
    _ = builtEntries .msbFirst 0x07 0 256 := by simp only [h0, h1, h2, h3, builtEntries_append, Nat.reduceAdd]

theorem refB_builtFrom : refB.BuiltFrom .lsbFirst 0x8C := by
  obtain ⟨h0, h1, h2, h3⟩ := refBRows_eq_builtEntries
  apply builtFrom_of_toList
  calc refB.table.toList = refBRows0 ++ refBRows1 ++ refBRows2 ++ refBRows3 := rfl
    _ = builtEntries .lsbFirst 0x8C 0 256 := by simp only [h0, h1, h2, h3, builtEntries_append, Nat.reduceAdd]

/-! ### The register in place of the table -/

/-- One byte through the table is the exclusive-or and the eight shifts of the register (R113, R119). -/
theorem crcStep_eq_serialStep {rom : CrcRom} {order : BitOrder} {poly : Byte} (h : rom.BuiltFrom order poly) :
    crcStep rom = serialStep order poly :=
  funext₂ fun c b => h (c ^^^ b)

theorem checksum_eq_serialChecksum {rom : CrcRom} {order : BitOrder} {poly : Byte} (h : rom.BuiltFrom order poly)
    (bytes : List Byte) : checksum rom bytes = serialChecksum order poly rom.init bytes := by
  rw [checksum, crcStep_eq_serialStep h, serialChecksum]

theorem runChecksum_eq_runSerialChecksum {order : BitOrder} {poly : Byte} {s : State} (h : s.rom.BuiltFrom order poly)
    (bytes : List Byte) : runChecksum s bytes = runSerialChecksum order poly s bytes := by
  rw [runChecksum_eq, runSerialChecksum_eq, checksum_eq_serialChecksum h]

/-! ### The obligations -/

/-- Settles O14: each printed table is built from its polynomial, and with a built table the update step, hence its fold
over any bytes, is the register's. -/
theorem serialRegisterEqualsTable : Obligations.SerialRegisterEqualsTable := by
  unfold Obligations.SerialRegisterEqualsTable
  exact ⟨fun bytes =>
      ⟨checksum_eq_serialChecksum refA_builtFrom bytes, checksum_eq_serialChecksum refB_builtFrom bytes⟩,
    fun _ _ _ h => checksum_eq_serialChecksum h, fun _ _ _ h => runChecksum_eq_runSerialChecksum h⟩

/-- Settles O12: the checksum is the fold of the update step, which looks up `CRC xor b`. -/
theorem checksumIsTheTableFold : Obligations.ChecksumIsTheTableFold := by
  unfold Obligations.ChecksumIsTheTableFold
  exact runChecksum_eq

/-- Settles O13: the tables are built from their polynomials, and the check values are nine table lookups each. -/
theorem referenceTablesAreEightShifts : Obligations.ReferenceTablesAreEightShifts := by
  unfold Obligations.ReferenceTablesAreEightShifts
  exact ⟨fun i => ⟨refA_builtFrom i, refB_builtFrom i⟩, rfl, rfl, by decide, by decide⟩

end Sys2Proof.Machine

/-! The codec on frame buffers: what a 16-bit field and a feature descriptor leave at each byte of a frame, and the payload
lengths (41_codec.md R130 to R138). -/

namespace Sys2Proof.Machine

/-! ### 16-bit fields -/

/-- A field decodes to a value exactly when its two bytes are the high and the low byte of the value (R134, R136). -/
theorem decodeI16_eq_some_iff {rd : Nat → Option Byte} {plen o : Nat} {inside : InPayload plen o} {v : I16} :
    decodeI16 rd plen o inside = some v ↔ rd (1 + o) = some (hiByte v) ∧ rd (2 + o) = some (loByte v) := by
  constructor
  · intro h
    simp only [decodeI16] at h
    split at h
    next hh hl =>
      cases h
      exact ⟨by rw [hh, hiByte_i16OfBytes], by rw [hl, loByte_i16OfBytes]⟩
    next => cases h
  · rintro ⟨hh, hl⟩
    rw [decodeI16_some hh hl, i16OfBytes_hi_lo]

/-- `encodeI16` sets frame byte `1 + o` to the high byte and `2 + o` to the low byte, and no other (R135). -/
theorem read_encodeI16 (v : I16) (F : Memory) (plen o : Nat) (inside : InPayload plen o) (a : Nat) :
    (encodeI16 v F plen o inside).read a =
      if 2 + o = a then some (loByte v) else if 1 + o = a then some (hiByte v) else F.read a := by
  rw [encodeI16, read_memWrite2, show 1 + o + 1 = 2 + o by omega]

/-! ### Feature descriptors -/

/-- The flags byte is the sum of its set bits' weights (R87, R138). -/
theorem flagsByte_toNat (f : CarFeatures) : (flagsByte f).toNat =
    (if f.adjustableSpeed then 1 else 0) + (if f.driveBackward then 2 else 0) + (if f.batteryPower then 4 else 0) := by
  simp only [flagsByte]
  cases f.adjustableSpeed <;> cases f.driveBackward <;> cases f.batteryPower <;> rfl

/-- `encodeFeatures` puts payload byte `k` of the descriptor into frame byte `k + 1` (R138). -/
theorem read_encodeFeatures_payload (f : CarFeatures) (F : Memory) {k : Nat} (hk : k < 9) :
    (encodeFeatures f F).read (k + 1) = (featureBytes f)[k]? := by
  simp only [encodeFeatures, read_encodeI16, memWrite1, read_write]
  interval_cases k <;> rfl

/-- `encodeFeatures` leaves the type byte and every byte behind the payload alone (R138). -/
theorem read_encodeFeatures_other (f : CarFeatures) (F : Memory) {a : Nat} (ha : a = 0 ∨ 9 < a) :
    (encodeFeatures f F).read a = F.read a := by
  have houtside : ∀ k, 1 ≤ k → k ≤ 9 → k ≠ a := by omega
  simp [encodeFeatures, read_encodeI16, memWrite1, read_write, houtside]

/-! ### The obligations -/

/-- Settles O8: a field holds a value exactly when its two bytes are the value's, so the bytes written decode to the value,
and the bytes of the value decoded are those that stand there. -/
theorem encodeDecodeI16RoundTrip : Obligations.EncodeDecodeI16RoundTrip := by
  unfold Obligations.EncodeDecodeI16RoundTrip
  refine fun F plen o inside => ⟨fun v => decodeI16_eq_some_iff.mpr ?_, fun v hv a => ?_⟩
  · constructor <;> simp [read_encodeI16]
  · obtain ⟨hhi, hlo⟩ := decodeI16_eq_some_iff.mp hv
    rw [read_encodeI16]
    split
    next ha => rw [← ha, hlo]
    next =>
      split
      next ha => rw [← ha, hhi]
      next => rfl

/-- Settles O10: the nine payload bytes are those of the descriptor in order, and the flags byte is a sum of weights. -/
theorem featurePayloadBytes : Obligations.FeaturePayloadBytes := by
  unfold Obligations.FeaturePayloadBytes
  intro f F
  have hpayload : ∀ k < 9, (encodeFeatures f F).read (k + 1) = (featureBytes f)[k]? :=
    fun _ => read_encodeFeatures_payload f F
  exact ⟨⟨flagsByte f, hpayload 0 (by omega), flagsByte_toNat f⟩,
    hpayload 1 (by omega), hpayload 2 (by omega), hpayload 3 (by omega), hpayload 4 (by omega),
    hpayload 5 (by omega), hpayload 6 (by omega), hpayload 7 (by omega), hpayload 8 (by omega),
    fun _ => read_encodeFeatures_other f F⟩

/-- Settles O11: the entry of each command and of each response. -/
theorem payloadLengthsByIdMinusOne : Obligations.PayloadLengthsByIdMinusOne := by
  unfold Obligations.PayloadLengthsByIdMinusOne
  constructor
  · intro c
    cases c <;> decide
  · intro r
    cases r <;> decide

end Sys2Proof.Machine

/-! The invocation and its phases: what the poll delivers, what one invocation does with no data, with an invalid frame and
with a valid one, and which capability calls it makes (42_dispatch.md R150 to R163). -/

namespace Sys2Proof.Machine

/-! ### The poll -/

theorem pollBytes_eq_nil_of_disconnected {s : State} (h : s.transport.connected = false) : s.pollBytes = [] := by
  simp [State.pollBytes, State.pollCount, h]

/-- A poll of a connected transport that offers no more bytes than wait delivers what it offers (R152, log 12). -/
theorem pollBytes_length_of_offer {s : State} {n : Nat} {rest : List Nat} (hconn : s.transport.connected = true)
    (hn : n ≤ 16) (hwait : n ≤ s.transport.queue.length) (hoffer : s.transport.polls.coming = n :: rest) :
    s.pollBytes.length = n := by
  have hnext : s.transport.polls.next Config.freePollSize = n := by simp only [Answers.next, hoffer]
  rw [pollBytes_length, State.pollCount]
  split
  case isTrue =>
    simp only [hnext, Config.requestSize]
    omega
  case isFalse hnone =>
    have hempty : s.transport.queue = [] := by simpa [hconn] using hnone
    rw [hempty] at hwait
    exact (Nat.le_zero.mp hwait).symm

/-! ### Valid frames -/

/-- A frame is valid when it has 16 bytes and its checksum (R157). -/
theorem validFrame_iff {rom : CrcRom} {d : List Byte} :
    validFrame rom d = true ↔ d.length = 16 ∧ hasChecksum rom d = true := by
  simp only [validFrame, Bool.and_eq_true, decide_eq_true_eq]

theorem validFrame_eq_false_of_length {rom : CrcRom} {d : List Byte} (h : d.length ≠ 16) : validFrame rom d = false := by
  simp only [validFrame, h, decide_false, Bool.false_and]

theorem decodeRequest_ok {rom : CrcRom} {d : List Byte} {i : Instr} (h : decodeRequest rom d = .ok i) :
    validFrame rom d = true ∧ decodeCommand (byteOf d) = some i := by
  simp only [decodeRequest] at h
  split at h
  case isFalse => cases h
  case isTrue hlen =>
  split at h
  case isFalse => cases h
  case isTrue hsum =>
  split at h <;> cases h
  exact ⟨validFrame_iff.mpr ⟨hlen, hsum⟩, ‹_›⟩

theorem decodeTableWord_some {nbits w : Nat} {i : Instr} (h : decodeTableWord nbits w = some i) :
    decodeCommand (byteOf (tableFrame nbits w)) = some i := by
  simp only [decodeTableWord] at h
  split at h
  · exact h
  · cases h

theorem stamped_coveredBytes_length (rom : CrcRom) {d : List Byte} (hd : d.length = 16) :
    (stamped rom (coveredBytes d)).length = 16 := by simp [stamped, coveredBytes, hd]

/-! ### The step from inside an invocation -/

theorem step_of_validating {s : State} (h : s.phase = .validating) : step s = fromValidating s := by simp only [step, h]

theorem step_of_dispatching {s : State} (h : s.phase = .dispatching) : step s = fromDispatching s := by
  simp only [step, h]

theorem step_of_responding {s : State} (h : s.phase = .responding) : step s = fromResponding s := by simp only [step, h]

theorem setLenOk_of_short {s : State} (h : s.rxlen.val ≠ 16) : setLenOk s = { s with lenok := false } := by
  simp only [setLenOk, Config.requestSize, h, decide_false]

theorem setOvr_of_answer {s : State} {b : Bool} (h : s.nearEmptyAnswer = b) :
    setOvr s = { s with ovr := b, vehicle := (callNearEmpty s).vehicle } := by
  rw [← h]
  rfl

/-- From the Dispatching phase with the override answered false, a captured frame's command leads to the Responding phase
(R150, R160). -/
theorem step_dispatching_command {s : State} {d : List Byte} (hs : s.phase = .dispatching)
    (hn : s.nearEmptyAnswer = false) (hrx : s.rx = Memory.ofBytes d) (hd : d.length = 16) :
    ∃ i u, decodeCommand (byteOf d) = some i ∧ u.phase = .responding ∧
      exec i { s with ovr := false, vehicle := (callNearEmpty s).vehicle, cmd := d.getD 0 0 } = .next u ∧
      step s = step u := by
  obtain ⟨i, hi, _⟩ := decodeCommand_of_sixteen d hd
  obtain ⟨u, hu, hframe⟩ := exec_request_next i { setOvr s with cmd := d.getD 0 0 } (decodeCommand_isRequest hi)
  have hstep : step s = step u := by
    rw [step_of_dispatching hs, fromDispatching_command s hn, dispatch_ofBytes (setOvr s) d hd hrx i hi, hu,
      step_of_responding hframe.phase]
    rfl
  rw [setOvr_of_answer hn] at hu
  exact ⟨i, u, hi, hframe.phase, hu, hstep⟩

/-! ### One invocation, by what its poll delivered -/

/-- No data: the invocation is its poll and the signal NODATA (R153). -/
theorem step_idle_noData {s : State} (hs : s.phase = .idle) (h : s.pollBytes = []) :
    step s = .next (setNoData (poll s)) := by
  rw [step_of_idle hs, fromIdle_noData s (pollCount_eq_zero h)]

/-- Whatever a poll with data delivers, it is answered. -/
theorem step_idle_respondsTo {s t : State} (hs : s.phase = .idle) (h : s.pollBytes ≠ []) (ht : step s = .next t) :
    RespondsTo (poll s) t := by
  rw [step_of_idle hs, fromIdle_data s (pollCount_ne_zero h)] at ht
  exact (fromValidating_respondsTo ht).of_sameInput ⟨rfl, rfl, rfl⟩

/-- An invalid frame: the poll and the tests, then one Error InvalidCommand (R156). -/
theorem step_idle_invalid {s : State} (hs : s.phase = .idle) (hdata : s.pollBytes ≠ [])
    (h : validFrame s.rom s.pollBytes = false) : ∃ crc lenok crcok, step s =
      .next (afterSending (raiseError .invalidCommand { poll s with
        nodata := false, phase := .validating, crc := crc, lenok := lenok, crcok := crcok })
        (encode s.rom (.error (ErrorId.code .invalidCommand)))) := by
  by_cases hlen : s.pollBytes.length = 16
  · have hsum : hasChecksum s.rom s.pollBytes = false := by simpa [validFrame, hlen] using h
    have hstep := step_idle_full hs hlen
    simp only [hsum] at hstep
    exact ⟨_, true, false, step_of_fromResponding hstep rfl⟩
  · exact ⟨s.crc, false, s.crcok, step_of_fromResponding (step_idle_short hs hdata hlen) rfl⟩

/-- The state in which the block asks about the battery: a valid frame is captured and both tests are passed (R157). -/
def atDispatch (s : State) : State :=
  { poll s with
    nodata := false
    lenok := true
    crc := checksum s.rom (coveredBytes s.pollBytes)
    crcok := true
    phase := .dispatching }

theorem step_idle_valid {s : State} (hs : s.phase = .idle) (h : validFrame s.rom s.pollBytes = true) :
    step s = fromDispatching (atDispatch s) := by
  obtain ⟨hlen, hsum⟩ := validFrame_iff.mp h
  rw [step_idle_full hs hlen, if_pos hsum]
  rfl

/-- A valid frame while the battery is critical: one query, then BatteryNearEmpty (R158). -/
theorem step_idle_override {s : State} (hs : s.phase = .idle) (h : validFrame s.rom s.pollBytes = true)
    (hn : s.nearEmptyAnswer = true) : step s = .next (afterSending (overrideWithNearEmpty (setOvr (atDispatch s)))
      (encode s.rom .batteryNearEmpty)) :=
  step_of_fromResponding ((step_idle_valid hs h).trans (fromDispatching_override (atDispatch s) hn)) rfl

/-- The hand-over of a valid frame happens in the state `atCommand` (R160). -/
theorem atCommand_eq {s : State} (hlen : s.pollBytes.length = 16) (hn : s.nearEmptyAnswer = false) :
    { setOvr (atDispatch s) with cmd := s.pollBytes.getD 0 0 } = atCommand s := by
  have hcount : s.pollCount = 16 := Fin.ext ((pollBytes_length s).symm.trans hlen)
  have hanswer : (atDispatch s).nearEmptyAnswer = false := hn
  rw [setOvr_of_answer hanswer]
  simp [atCommand, atDispatch, hcount]

/-- A valid frame while the battery is not critical: its command runs, then the response (R160, R162). -/
theorem step_idle_command {s : State} {i : Instr} (hs : s.phase = .idle) (h : validFrame s.rom s.pollBytes = true)
    (hn : s.nearEmptyAnswer = false) (hi : decodeCommand (byteOf s.pollBytes) = some i) :
    step s = andThen (exec i (atCommand s)) fromResponding := by
  obtain ⟨hlen, _⟩ := validFrame_iff.mp h
  rw [step_idle_valid hs h, fromDispatching_command (atDispatch s) hn,
    dispatch_ofBytes (setOvr (atDispatch s)) s.pollBytes hlen rfl i hi, atCommand_eq hlen hn]

/-! ### The frames of the block's own answers -/

theorem encode_invalidCommand (rom : CrcRom) : encode rom (.error (ErrorId.code .invalidCommand)) =
    stamped rom [0x02, 0x00, 0x01, 0, 0, 0, 0, 0, 0, 0, 0, 0, 0, 0, 0] := by
  rw [encode, encodeBody_error_code]
  rfl

theorem encode_batteryNearEmpty (rom : CrcRom) : encode rom .batteryNearEmpty =
    stamped rom [0x03, 0, 0, 0, 0, 0, 0, 0, 0, 0, 0, 0, 0, 0, 0] := rfl

/-! ### Short reads -/

/-- What a short read leaves to the next invocation: an Idle block on the same ROM, the bytes behind the read, and one more
Error InvalidCommand sent (R159, R255). -/
theorem step_idle_lost {s : State} (hs : s.phase = .idle) (hdata : s.pollBytes ≠ []) (hshort : s.pollBytes.length < 16) :
    ∃ t, step s = .next t ∧ t.phase = .idle ∧ t.rom = s.rom ∧ s.transport.queue = s.pollBytes ++ t.transport.queue ∧
      t.transport.sent = s.transport.sent ++ stamped s.rom [0x02, 0x00, 0x01, 0, 0, 0, 0, 0, 0, 0, 0, 0, 0, 0, 0] := by
  obtain ⟨_, _, _, hstep⟩ := step_idle_invalid hs hdata (validFrame_eq_false_of_length hshort.ne)
  exact ⟨_, hstep, rfl, rfl, (pollBytes_append_queue s).symm, by simp [encode_invalidCommand]⟩

/-! ### The capability calls of an invocation -/

/-- Unless the frame is valid the vehicle is left alone, OVR too (R156, R158). -/
theorem step_idle_not_valid {s : State} (hs : s.phase = .idle) (h : validFrame s.rom s.pollBytes = false) :
    ∃ t, step s = .next t ∧ t.phase = .idle ∧ t.vehicle = s.vehicle ∧ t.ovr = s.ovr := by
  by_cases hdata : s.pollBytes = []
  · exact ⟨_, step_idle_noData hs hdata, hs, rfl, rfl⟩
  · obtain ⟨_, _, _, hstep⟩ := step_idle_invalid hs hdata h
    exact ⟨_, hstep, rfl, rfl, rfl⟩

/-- The capability call that a request's rule names, with the request's operands (R183 to R187, R189). -/
def requestCalls : Instr → List VehicleCall
  | .getFeatures => [.getFeatures]
  | .turnCar rotation => [.turnCar rotation]
  | .adjustSpeed speed => [.adjustSpeed speed]
  | .rotateCam pan tilt => [.rotateCam pan tilt]
  | .getBatteryState => [.getBatteryState]
  | .noop | .getProtocolVersion | .unknownCommand _ => []
  | .ok | .error _ | .batteryNearEmpty | .protocolVersion _ | .features _ | .batteryState _ => []

/-- A request makes its own call and no other. -/
theorem exec_request_calls {i : Instr} {s t : State} (hi : i.isRequest = true) (h : exec i s = .next t) :
    t.vehicle.calls = s.vehicle.calls ++ requestCalls i := by
  match i with
  | .noop | .getProtocolVersion | .getFeatures | .unknownCommand _ =>
    cases h
    simp [requestCalls]
  | .turnCar _ | .adjustSpeed _ | .rotateCam _ _ =>
    cases h
    simp [answerActuation_eq, requestCalls]
  | .getBatteryState =>
    cases (execGetBatteryState_eq s).symm.trans h
    simp [requestCalls]

/-- The call that the bytes of a frame name is that of the request they decode to (R83, R190). -/
theorem commandCalls_of_decode {d : List Byte} {i : Instr} (hd : d.length = 16)
    (hi : decodeCommand (byteOf d) = some i) : commandCalls d = requestCalls i := by
  obtain ⟨b0, b1, b2, b3, b4, b5, b6, b7, b8, b9, b10, b11, b12, b13, b14, b15, rfl⟩ := sixteen_bytes d hd
  cases hid : CommandId.ofByte b0 with
  | some c =>
    cases CommandId.ofByte_eq_some_iff.mp hid
    cases c <;> cases hi <;> rfl
  | none =>
    have hunknown : b0.toNat = 0 ∨ 8 ≤ b0.toNat := by
      simpa [isUnknownCommandByte] using CommandId.ofByte_eq_none_iff.mp hid
    rw [decodeCommand_of_byte (c := b0) rfl] at hi
    simp only [decodeArm, hid] at hi
    cases hi
    simp only [commandCalls, List.getD_cons_zero]
    split
    case h_6 => rfl
    all_goals omega

theorem commandCalls_length_le (d : List Byte) : (commandCalls d).length ≤ 1 := by
  simp only [commandCalls]
  split <;> simp

theorem callsTo_length_le (rom : CrcRom) (a : EnvAnswers) (d : List Byte) : (callsTo rom a d).length ≤ 2 := by
  simp only [callsTo]
  split
  · split
    · simp
    · simpa using commandCalls_length_le d
  · simp

theorem step_idle_calls {s t : State} (hs : s.phase = .idle) (ht : step s = .next t) :
    t.vehicle.calls = s.vehicle.calls ++ callsTo s.rom (answersOf s) s.pollBytes := by
  cases hv : validFrame s.rom s.pollBytes with
  | false =>
    obtain ⟨u, hu, _, hveh, _⟩ := step_idle_not_valid hs hv
    cases hu.symm.trans ht
    simp [callsTo, hv, hveh]
  | true =>
    cases hn : s.nearEmptyAnswer with
    | true =>
      cases (step_idle_override hs hv hn).symm.trans ht
      simp [callsTo, hv, answersOf, hn, atDispatch]
    | false =>
      obtain ⟨hlen, _⟩ := validFrame_iff.mp hv
      obtain ⟨i, hi, _⟩ := decodeCommand_of_sixteen s.pollBytes hlen
      rw [step_idle_command hs hv hn hi] at ht
      obtain ⟨u, hu, hut⟩ := andThen_eq_next ht
      cases (fromResponding_next u).symm.trans hut
      have hcalls := exec_request_calls (decodeCommand_isRequest hi) hu
      simp [callsTo, hv, answersOf, hn, hcalls, atCommand, commandCalls_of_decode hlen hi]

/-! ### The polls and the bytes sent of an invocation -/

theorem RespondsTo.polls_sent {s t : State} (h : RespondsTo s t) : t.transport.polls = s.transport.polls ∧
    t.transport.sent.length = s.transport.sent.length + 16 := by
  obtain ⟨u, ⟨_, _, htr⟩, rfl⟩ := h
  simp [htr, encode_length]

/-- One poll, and one frame of 16 bytes unless it delivered nothing (R163). -/
theorem step_idle_polls_sent {s t : State} (hs : s.phase = .idle) (ht : step s = .next t) :
    t.transport.polls = s.transport.polls.advance ∧
      t.transport.sent.length = s.transport.sent.length + (if s.pollBytes = [] then 0 else 16) := by
  by_cases hdata : s.pollBytes = []
  · cases (step_idle_noData hs hdata).symm.trans ht
    simp [hdata]
  · simpa [hdata] using (step_idle_respondsTo hs hdata ht).polls_sent

theorem RespondsTo.phase_idle {s t : State} (h : RespondsTo s t) : t.phase = .idle := by
  obtain ⟨u, _, rfl⟩ := h
  rfl

/-! ### The obligations -/

/-- Settles O15: the poll splits the waiting bytes at its count, and RX lists the first part. -/
theorem pollDeliversOldestBytes : Obligations.PollDeliversOldestBytes := by
  unfold Obligations.PollDeliversOldestBytes
  exact fun s => ⟨(pollBytes_length s).symm, pollBytes_length_le s, (pollBytes_append_queue s).symm,
    fun k hk => ⟨read_ofBytes _ k, by rw [poll_rx, read_ofBytes, List.getElem?_eq_getElem hk, Option.isSome_some]⟩,
    fun k hk => by rw [poll_rx, read_ofBytes, List.getElem?_eq_none hk],
    fun _ _ => pollBytes_length_of_offer, rfl, rfl, rfl⟩

/-- Settles O16: a poll of no bytes sets RXLEN to 0 and leaves every waiting byte. -/
theorem noDataIsNoOp : Obligations.NoDataIsNoOp := by
  unfold Obligations.NoDataIsNoOp
  refine fun s hs => ⟨pollBytes_eq_nil_of_disconnected, fun hdata => ⟨_, step_idle_noData hs hdata, hs, ?_⟩⟩
  have hcount : s.pollCount = 0 := pollCount_eq_zero hdata
  simp [hcount]

/-- Settles O17: the Error state of an invalid frame is the polled state with its registers set. -/
theorem invalidFrameIsAnswered : Obligations.InvalidFrameIsAnswered := by
  unfold Obligations.InvalidFrameIsAnswered
  intro s hs hdata hv
  obtain ⟨_, _, _, hstep⟩ := step_idle_invalid hs hdata hv
  rw [encode_invalidCommand] at hstep
  exact ⟨_, hstep, rfl, rfl, rfl, rfl, rfl, rfl, rfl, rfl, rfl, rfl, rfl⟩

/-- Settles O18: the override leaves the command alone, and without a valid frame there is no query. -/
theorem overrideAnswersEveryValidFrame : Obligations.OverrideAnswersEveryValidFrame := by
  unfold Obligations.OverrideAnswersEveryValidFrame
  refine fun s hs => ⟨fun hv hn => ?_, step_idle_not_valid hs⟩
  exact ⟨_, step_idle_override hs hv hn, rfl, rfl, hn, rfl, rfl, rfl, rfl, rfl, rfl, rfl, rfl⟩

/-- Settles O21: each row is the rule of its phase, and the state it goes on from stands in the phase it names. -/
theorem phaseTransitions : Obligations.PhaseTransitions := by
  unfold Obligations.PhaseTransitions
  refine ⟨fun s hs => ⟨fun _ => step_idle_next hs, fun hdata => ?_⟩,
    fun s hs => ⟨fun hlen => ?_, fun d hlen hrx hd => ⟨fun hsum => ?_, fun hsum => ?_⟩⟩,
    fun s hs => ⟨fun hn => ?_, fun d hn hrx hd => ?_⟩, fun s hs => ?_⟩
  · rw [step_of_idle hs, fromIdle_data s hdata]
    rfl
  · rw [step_of_validating hs, fromValidating_short s hlen, setLenOk_of_short hlen]
    rfl
  · rw [step_of_validating hs, fromValidating_full s d hd hrx hlen, hsum]
    rfl
  · rw [step_of_validating hs, fromValidating_full s d hd hrx hlen, hsum]
    rfl
  · rw [step_of_dispatching hs, fromDispatching_override s hn, setOvr_of_answer hn]
    rfl
  · exact step_dispatching_command hs hn hrx hd
  · exact ⟨_, (step_of_responding hs).trans (fromResponding_next s), rfl⟩

/-- Settles O44: the calls by the kind of frame, the poll and the response by whether there was data. -/
theorem callsAndResponsesPerInvocation : Obligations.CallsAndResponsesPerInvocation := by
  unfold Obligations.CallsAndResponsesPerInvocation
  intro s hs
  obtain ⟨t, ht, _⟩ := step_idle_next hs
  obtain ⟨hpolls, hsent⟩ := step_idle_polls_sent hs ht
  exact ⟨t, ht, step_idle_calls hs ht, hpolls, hsent, callsTo_length_le _ _ _⟩

/-- Settles O46: a short read leaves an Idle block, so a second one is lost and answered like the first. -/
theorem shortReadsAreLostAndAnswered : Obligations.ShortReadsAreLostAndAnswered := by
  unfold Obligations.ShortReadsAreLostAndAnswered
  intro s hs hdata hshort
  obtain ⟨t, ht, hidle, hrom, hqueue, hsent⟩ := step_idle_lost hs hdata hshort
  refine ⟨t, ht, hqueue, hsent, fun hdata' hshort' => ?_⟩
  obtain ⟨u, hu, _, _, _, hsent'⟩ := step_idle_lost hidle hdata' hshort'
  exact ⟨u, hu, by rw [hsent', hsent, hrom]⟩

/-- Settles O47: from Idle by `step_idle_next`, from inside an invocation because a response ends it. -/
theorem invocationEndsInIdle : Obligations.InvocationEndsInIdle := by
  unfold Obligations.InvocationEndsInIdle
  refine ⟨fun s => step_idle_next, fun s t ht => ?_⟩
  cases hs : s.phase with
  | idle =>
    obtain ⟨u, hu, hidle⟩ := step_idle_next hs
    cases hu.symm.trans ht
    exact hidle
  | validating =>
    rw [step_of_validating hs] at ht
    exact (fromValidating_respondsTo ht).phase_idle
  | dispatching =>
    rw [step_of_dispatching hs] at ht
    exact (fromDispatching_respondsTo ht).phase_idle
  | responding =>
    rw [step_of_responding hs] at ht
    exact (fromResponding_respondsTo ht).phase_idle

/-- Settles O19: a decoded request is a valid frame with its command. -/
theorem stepRunsDecodedInstruction : Obligations.StepRunsDecodedInstruction := by
  unfold Obligations.StepRunsDecodedInstruction
  intro s i hs h hn
  obtain ⟨hv, hi⟩ := decodeRequest_ok h
  exact step_idle_command hs hv hn hi

/-- Settles O20: the placed frame decodes as the word does, whatever its checksum. -/
theorem fetchWordRunsItsInstruction : Obligations.FetchWordRunsItsInstruction := by
  unfold Obligations.FetchWordRunsItsInstruction
  intro s nbits w i hi
  have hd := tableFrame_length nbits w
  have hcmd : decodeCommand (byteOf (stamped s.rom (coveredBytes (tableFrame nbits w)))) = some i :=
    (decodeCommand_covered _ hd _).trans (decodeTableWord_some hi)
  rw [step_of_dispatching (withFetchWord_phase s nbits w),
    fromDispatching_command _ (withFetchWord_nearEmptyAnswer s nbits w),
    dispatch_ofBytes (setOvr (s.withFetchWord nbits w)) _ (stamped_coveredBytes_length s.rom hd)
      (withFetchWord_rx s nbits w) i hcmd]
  rfl

end Sys2Proof.Machine

/-! The commands: the byte 0 of each row of R82, and the whole next state of each of its outcomes (R180 to R188). -/

namespace Sys2Proof.Machine

/-! ### The byte that selects a command -/

/-- A byte 0 outside 1 to 7 is decoded to the unknown command that carries it (R90, R188). -/
theorem decodeCommand_unknownCommand {rd : Nat → Option Byte} {c : Byte} (h : rd 0 = some c)
    (hc : isUnknownCommandByte c = true) : decodeCommand rd = some (.unknownCommand c) := by
  have hid : CommandId.ofByte c = none := CommandId.ofByte_eq_none_iff.mpr hc
  rw [decodeCommand_of_byte h]
  simp only [decodeArm, hid]

theorem isUnknownCommandByte_iff {c : Byte} : isUnknownCommandByte c = true ↔ c = 0 ∨ 8 ≤ c.toNat := by
  have hzero : c.toNat = 0 ↔ c = 0 := BitVec.toNat_inj (y := 0)
  simp only [isUnknownCommandByte, decide_eq_true_eq, hzero]

/-! ### The actuations -/

/-- All that a request can do that ends in an actuation, by what the call returned; `u` is the state after the call
(R184 to R186). -/
theorem exec_of_answerActuation {i : Instr} {s u : State} {returned : Bool}
    (h : exec i s = .next (answerActuation (setOpOk returned u))) :
    (returned = true → exec i s = .next { u with opok := true, rsp := .ok, phase := .responding }) ∧
    (returned = false →
      exec i s = .next { u with opok := false, rsp := .error, res := 3, phase := .responding }) := by
  rw [h, answerActuation_eq]
  constructor <;> rintro rfl <;> rfl

theorem exec_turnCar (rotation : I16) (s : State) : exec (.turnCar rotation) s =
    .next (answerActuation (setOpOk s.turnCarAnswer (callTurnCar rotation { s with arg0 := rotation }))) := rfl

theorem exec_adjustSpeed (speed : I16) (s : State) : exec (.adjustSpeed speed) s =
    .next (answerActuation (setOpOk s.adjustSpeedAnswer (callAdjustSpeed speed { s with arg0 := speed }))) := rfl

theorem exec_rotateCam (pan tilt : I16) (s : State) : exec (.rotateCam pan tilt) s =
    .next (answerActuation (setOpOk s.rotateCamAnswer
      (callRotateCam pan tilt { s with arg0 := pan, arg1 := tilt }))) := rfl

/-! ### The battery query -/

/-- A level that is not negative goes to RES and is reported (R187). -/
theorem exec_getBatteryState_of_nonneg {s : State} (h : 0 ≤ s.batteryStateAnswer.toInt) :
    exec .getBatteryState s = .next { callGetBatteryState s with
      res := s.batteryStateAnswer, opok := true, rsp := .batteryState, phase := .responding } := by
  refine (execGetBatteryState_eq s).trans ?_
  simp only [h, if_true, decide_true]

/-- A negative level is a failure: RES ends with the error code in place of the level (R187, R224). -/
theorem exec_getBatteryState_of_neg {s : State} (h : s.batteryStateAnswer.toInt < 0) :
    exec .getBatteryState s = .next { callGetBatteryState s with
      res := 3, opok := false, rsp := .error, phase := .responding } := by
  refine (execGetBatteryState_eq s).trans ?_
  simp only [not_le.mpr h, if_false, decide_false]

/-! ### The statements -/

/-- Settles O22: byte 0 alone selects Noop, whose rule is the answer Ok. -/
theorem noopAnswersOk : Obligations.NoopAnswersOk := by
  unfold Obligations.NoopAnswersOk
  exact ⟨fun _ h => (decodeCommand_of_byte h).trans rfl, fun _ => rfl⟩

/-- Settles O23: the rule writes the protocol version to RES and makes no call. -/
theorem getProtocolVersionAnswersOne : Obligations.GetProtocolVersionAnswersOne := by
  unfold Obligations.GetProtocolVersionAnswersOne
  exact ⟨fun _ h => (decodeCommand_of_byte h).trans rfl, fun _ => rfl⟩

/-- Settles O24: the rule has one branch, so no descriptor is a failure. -/
theorem getFeaturesAsksTheVehicle : Obligations.GetFeaturesAsksTheVehicle := by
  unfold Obligations.GetFeaturesAsksTheVehicle
  exact ⟨fun _ h => (decodeCommand_of_byte h).trans rfl, fun _ => rfl⟩

/-- Settles O25: one actuation, with ARG0 as its operand. -/
theorem turnCarActuates : Obligations.TurnCarActuates := by
  unfold Obligations.TurnCarActuates
  exact ⟨fun _ _ _ => decodeCommand_turnCar, fun rotation s => exec_of_answerActuation (exec_turnCar rotation s)⟩

/-- Settles O26: one actuation, with ARG0 as its operand. -/
theorem adjustSpeedActuates : Obligations.AdjustSpeedActuates := by
  unfold Obligations.AdjustSpeedActuates
  exact ⟨fun _ _ _ => decodeCommand_adjustSpeed, fun speed s => exec_of_answerActuation (exec_adjustSpeed speed s)⟩

/-- Settles O27: one actuation, with ARG0 and ARG1 as its operands. -/
theorem rotateCamActuates : Obligations.RotateCamActuates := by
  unfold Obligations.RotateCamActuates
  exact ⟨fun _ _ _ _ _ => decodeCommand_rotateCam,
    fun pan tilt s => exec_of_answerActuation (exec_rotateCam pan tilt s)⟩

/-- Settles O28: the sign of the level chooses between its two rules, and 0 is on the side of success. -/
theorem getBatteryStateReportsOrFails : Obligations.GetBatteryStateReportsOrFails := by
  unfold Obligations.GetBatteryStateReportsOrFails
  exact ⟨fun _ h => (decodeCommand_of_byte h).trans rfl,
    fun _ => ⟨exec_getBatteryState_of_nonneg, exec_getBatteryState_of_neg⟩⟩

/-- Settles O29: the bytes named are those that name no command, and the rule raises its error whatever the byte is. -/
theorem unknownCommandRaisesError : Obligations.UnknownCommandRaisesError := by
  unfold Obligations.UnknownCommandRaisesError
  exact ⟨fun _ _ h hc => decodeCommand_unknownCommand h (isUnknownCommandByte_iff.mpr hc), fun _ _ => rfl⟩

end Sys2Proof.Machine

/-! The responses: what each one leaves in TX, what it sends and what it leaves unchanged, and that all the block sends is
a sequence of legal frames (44_response.md R200 to R213; R227). -/

namespace Sys2Proof.Machine

/-! ### The response of an invocation is one the block may send -/

/-- An actuation ends in Ok or in Error ProcessCommandError (R184 to R186). -/
theorem answerActuation_sendable (s : State) : sendable (responseOf (answerActuation s)) = true := by
  rw [answerActuation_eq]
  cases s.opok <;> rfl

/-- After every request the registers select a legal response: the version is 1, a level reported is not negative and an
error code is 2 or 3 (R182 to R188, R227). -/
theorem exec_request_sendable {i : Instr} {s t : State} (hi : i.isRequest = true) (h : exec i s = .next t) :
    sendable (responseOf t) = true := by
  match i with
  | .noop | .getProtocolVersion | .getFeatures | .unknownCommand _ =>
    cases h
    rfl
  | .turnCar _ | .adjustSpeed _ | .rotateCam _ _ =>
    cases h
    exact answerActuation_sendable _
  | .getBatteryState =>
    by_cases hlevel : 0 ≤ s.batteryStateAnswer.toInt
    · cases (exec_getBatteryState_of_nonneg hlevel).symm.trans h
      simp [responseOf, sendable, Instr.isRequest, wellFormed, isReportedLevel, hlevel]
    · cases (exec_getBatteryState_of_neg (not_le.mp hlevel)).symm.trans h
      rfl

/-- What one invocation sends: nothing, or the frame of one legal response (R163, R227). The cases are those of the poll:
no data, an invalid frame, a valid one while the battery is critical, and a command. -/
theorem step_idle_sent {s t : State} (hs : s.phase = .idle) (ht : step s = .next t) :
    t.transport.sent = s.transport.sent ∨
      ∃ i, sendable i = true ∧ t.transport.sent = s.transport.sent ++ encode s.rom i := by
  by_cases hdata : s.pollBytes = []
  · cases (step_idle_noData hs hdata).symm.trans ht
    exact .inl rfl
  right
  cases hv : validFrame s.rom s.pollBytes with
  | false =>
    obtain ⟨_, _, _, hstep⟩ := step_idle_invalid hs hdata hv
    cases hstep.symm.trans ht
    exact ⟨_, rfl, rfl⟩
  | true =>
    cases hn : s.nearEmptyAnswer with
    | true =>
      cases (step_idle_override hs hv hn).symm.trans ht
      exact ⟨_, rfl, rfl⟩
    | false =>
      obtain ⟨hlen, _⟩ := validFrame_iff.mp hv
      obtain ⟨i, hi, _⟩ := decodeCommand_of_sixteen s.pollBytes hlen
      rw [step_idle_command hs hv hn hi] at ht
      obtain ⟨u, hu, hut⟩ := andThen_eq_next ht
      cases (fromResponding_next u).symm.trans hut
      have hreq := decodeCommand_isRequest hi
      have hf : RequestFrame (atCommand s) u := exec_request_frame hreq hu
      exact ⟨_, exec_request_sendable hreq hu, by simp [hf.transport, hf.rom, atCommand]⟩

/-- A legal stream stays legal when the frame of a legal response is sent after it. -/
theorem LegalStream.append_encode {rom : CrcRom} {sent : List Byte} {i : Instr} (h : LegalStream rom sent)
    (hi : sendable i = true) : LegalStream rom (sent ++ encode rom i) := by
  obtain ⟨replies, hlegal, rfl⟩ := h
  refine ⟨replies ++ [i], fun j hj => ?_, by simp⟩
  obtain hj | hj := List.mem_append.mp hj
  · exact hlegal j hj
  · exact List.mem_singleton.mp hj ▸ hi

/-! ### The frame of a response, byte by byte -/

/-- A buffer in canonical form lists no byte outside the frame (R35, R50). -/
theorem read_of_wfFrom {a : Nat} (ha : 16 ≤ a) : ∀ {m : Memory} {lo : Nat}, Memory.wfFrom lo m = true → m.read a = none
  | [], _, _ => rfl
  | (k, v) :: m, lo, h => by
    simp only [Memory.wfFrom, Bool.and_eq_true, decide_eq_true_eq] at h
    obtain ⟨⟨_, hk⟩, hm⟩ := h
    rw [read_cons, if_neg (by omega), read_of_wfFrom ha hm]

/-- Bytes 0 to 14 of a frame are those of its body. -/
theorem encode_getElem?_body (rom : CrcRom) (i : Instr) {k : Nat} (hk : k ≤ 14) :
    (encode rom i)[k]? = (encodeBody i)[k]? :=
  List.getElem?_append_left (by rw [encodeBody_length]; omega)

/-- Byte 15 of a frame is the checksum of its body (R51, R210). -/
theorem encode_getElem?_last (rom : CrcRom) (i : Instr) :
    (encode rom i)[15]? = some (checksum rom (encodeBody i)) := by
  simp [encode, encodeBody_length]

/-- A response's frame body is its id, as many payload bytes as its row declares, and zeros (R84, R203). -/
theorem encodeBody_of_responseIdOf {i : Instr} {r : ResponseId} (h : responseIdOf i = some r) :
    ∃ payload : List Byte, payload.length = r.payloadLength ∧ encodeBody i = frameBody r.code payload := by
  cases i <;> cases h <;> exact ⟨_, rfl, rfl⟩

theorem isRequest_of_responseIdOf {i : Instr} {r : ResponseId} (h : responseIdOf i = some r) : i.isRequest = false := by
  cases i <;> cases h <;> rfl

/-- The bytes of a frame body after the payload are zero (R203). -/
theorem frameBody_getElem?_padding {code : Byte} {payload : List Byte} {k : Nat} (hk : payload.length < k)
    (hk' : k ≤ 14) : (frameBody code payload)[k]? = some 0 := by
  have hpad : k - (payload.length + 1) < 14 - payload.length := by omega
  rw [frameBody, List.getElem?_append_right (by simpa using hk), List.length_cons, List.getElem?_replicate, if_pos hpad]

/-- The bytes of TX after a response are those of its frame (R201). -/
theorem read_afterSending_encode (s : State) (i : Instr) (a : Nat) :
    (afterSending s (encode s.rom i)).tx.read a = (encode s.rom i)[a]? := by
  rw [afterSending_tx, read_ofBytes]

/-- The flags byte of a feature descriptor's frame has no bit above bit 2 (R87, R92). -/
theorem encodeBody_features_flags {i : Instr} (h : responseIdOf i = some .features) :
    ∃ b : Byte, (encodeBody i)[1]? = some b ∧ b.toNat < 8 := by
  cases i <;> cases h
  case features f =>
    obtain ⟨_, _, _, hlt⟩ := flagsByte_bits f
    exact ⟨flagsByte f, rfl, hlt⟩

/-- All that a response with a given frame body does. -/
theorem exec_response_of_body {i : Instr} {body : List Byte} (hi : i.isRequest = false) (hbody : encodeBody i = body)
    (s : State) : exec i s = .next (afterSending s (stamped s.rom body)) := by
  rw [exec_response i hi s, ← hbody]
  rfl

/-- A level that is not negative has a high byte below 0x80 (R208). -/
theorem hiByte_toNat_le_of_nonneg {v : I16} (h : 0 ≤ v.toInt) : (hiByte v).toNat ≤ 0x7F := by
  have hlt : 2 * v.toNat < 2 ^ 16 := BitVec.toInt_pos_iff.mp h
  rw [hiByte, BitVec.extractLsb'_toNat, Nat.shiftRight_eq_div_pow]
  omega

/-! ### The obligations -/

/-- Settles O52: an invocation from Idle ends in Idle, keeps the ROM and sends nothing or the frame of a legal response. -/
theorem stepsKeepSentStreamLegal : Obligations.StepsKeepSentStreamLegal := by
  unfold Obligations.StepsKeepSentStreamLegal
  intro s t ⟨hidle, hlegal⟩ hstep
  obtain ⟨_, hends⟩ := invocationEndsInIdle
  obtain ⟨hrom, _⟩ := stepsNeverWriteTheRom s t hstep
  refine ⟨hends s t hstep, ?_⟩
  rw [hrom]
  obtain hsent | ⟨i, hi, hsent⟩ := step_idle_sent hidle hstep
  · exact hsent ▸ hlegal
  · exact hsent ▸ hlegal.append_encode hi

/-- Settles O37: the next state is `afterSending`, whose TX lists one whole frame; a canonical TX lists no byte outside. -/
theorem responsesChangeOnlyFrameAndPhase : Obligations.ResponsesChangeOnlyFrameAndPhase := by
  unfold Obligations.ResponsesChangeOnlyFrameAndPhase
  intro i s t hi h
  cases (exec_response i hi s).symm.trans h
  refine ⟨rfl, rfl, rfl, rfl, rfl, rfl, rfl, rfl, rfl, rfl, rfl, rfl, rfl, rfl, rfl, rfl, fun _ => rfl,
    fun a ha => ?_, fun a ha hwf => ?_⟩
  · simpa [read_afterSending_encode, encode_length] using ha
  · rw [read_afterSending_encode, read_of_wfFrom ha hwf, List.getElem?_eq_none (by rwa [encode_length])]

/-- Settles O38: TX is the frame of the response under the ROM, whatever the state, and its body is zero after the
payload. -/
theorem responsesAreZeroFilled : Obligations.ResponsesAreZeroFilled := by
  unfold Obligations.ResponsesAreZeroFilled
  intro i r s hr
  have hexec := exec_response i (isRequest_of_responseIdOf hr)
  obtain ⟨payload, hlen, hbody⟩ := encodeBody_of_responseIdOf hr
  refine ⟨_, hexec s, ?_, fun k hk hk' => ?_, ?_, fun s' hrom => ⟨_, hexec s', ?_⟩⟩
  · rw [read_afterSending_encode, encode_getElem?_body _ _ (by omega), hbody]
    rfl
  · rw [read_afterSending_encode, encode_getElem?_body _ _ hk', hbody, frameBody_getElem?_padding (hlen ▸ hk) hk']
  · rintro rfl
    rw [read_afterSending_encode, encode_getElem?_body _ _ (by omega)]
    exact encodeBody_features_flags hr
  · rw [afterSending_tx, afterSending_tx, hrom]

/-- Settles O39: TX lists the frame that is sent, a body and its checksum. -/
theorem responsesAreStamped : Obligations.ResponsesAreStamped := by
  unfold Obligations.ResponsesAreStamped
  intro i s hi
  have hlen := encode_length s.rom i
  refine ⟨_, encodeBody i, exec_response i hi s, ?_, ?_, encode s.rom i, ?_, rfl, rfl⟩
  · rw [afterSending_tx, bytes_ofBytes _ 15 0 (by omega), ← coveredBytes_encode s.rom i]
    rfl
  · rw [read_afterSending_encode, encode_getElem?_last]
  · rw [afterSending_tx, bytes_ofBytes _ 16 0 (by omega), List.drop_zero, List.take_of_length_le hlen.le]

/-- Settles O31: the frame body of Ok has no payload. -/
theorem okFrame : Obligations.OkFrame := by
  unfold Obligations.OkFrame
  exact exec_response_of_body rfl rfl

/-- Settles O32: the frame body of Error holds the two bytes of its value, and each code's high byte is 0. -/
theorem errorFrame : Obligations.ErrorFrame := by
  unfold Obligations.ErrorFrame
  exact ⟨fun _ => exec_response_of_body rfl rfl, fun s =>
    ⟨exec_response_of_body rfl (encodeBody_error_code .invalidCommand) s,
      exec_response_of_body rfl (encodeBody_error_code .unknownCommand) s,
      exec_response_of_body rfl (encodeBody_error_code .processCommandError) s⟩⟩

/-- Settles O33: the frame body of BatteryNearEmpty has no payload. -/
theorem batteryNearEmptyFrame : Obligations.BatteryNearEmptyFrame := by
  unfold Obligations.BatteryNearEmptyFrame
  exact exec_response_of_body rfl rfl

/-- Settles O34: the frame body of ProtocolVersion holds the two bytes of its value, 0 and 1 for the constant. -/
theorem protocolVersionFrame : Obligations.ProtocolVersionFrame := by
  unfold Obligations.ProtocolVersionFrame
  exact ⟨fun _ => exec_response_of_body rfl rfl, exec_response_of_body rfl (by decide)⟩

/-- Settles O35: the frame body of Features holds the flags byte and the four limits. (`featuresFrame` itself is the
model's name for the build of that frame.) -/
theorem featuresFrame_sent : Obligations.FeaturesFrame := by
  unfold Obligations.FeaturesFrame
  exact fun f s => ⟨flagsByte f, flagsByte_toNat f, exec_response_of_body rfl rfl s⟩

/-- Settles O36: the frame body of BatteryState holds the two bytes of its value. -/
theorem batteryStateFrame : Obligations.BatteryStateFrame := by
  unfold Obligations.BatteryStateFrame
  exact fun _ s => ⟨exec_response_of_body rfl rfl s, hiByte_toNat_le_of_nonneg⟩

end Sys2Proof.Machine

/-! The error outcomes and the one response that an invocation is given: how an Error is raised, which cause wins, what is
never sent, and that no run stops (60_exceptions.md R220 to R232). -/

namespace Sys2Proof.Machine

/-! ### The response as a function of the inputs -/

/-- With data but no valid frame the cause is InvalidCommand, whichever test failed (R156, R229). -/
theorem replyTo_of_invalid {rom : CrcRom} {d : List Byte} (a : EnvAnswers) (hdata : d ≠ [])
    (h : validFrame rom d = false) : replyTo rom a d = some (.error 1) := by
  have hlen : d.length ≠ 0 := fun h0 => hdata (List.eq_nil_of_length_eq_zero h0)
  rw [replyTo, if_neg hlen]
  by_cases h16 : d.length = 16
  · have hsum : hasChecksum rom d = false := by simpa [validFrame, h16] using h
    rw [if_neg (not_not.mpr h16), if_pos hsum]
  · rw [if_pos h16]

/-- For a valid frame the battery override comes before the command (R158, R229). -/
theorem replyTo_of_valid {rom : CrcRom} {d : List Byte} (a : EnvAnswers) (h : validFrame rom d = true) :
    replyTo rom a d = some (if a.nearEmpty then .batteryNearEmpty else commandReply a d) := by
  obtain ⟨hlen, hsum⟩ := validFrame_iff.mp h
  simp only [replyTo, hlen, hsum]
  cases a.nearEmpty <;> rfl

theorem replyBytes_of_replyTo {rom : CrcRom} {a : EnvAnswers} {d : List Byte} {i : Instr}
    (h : replyTo rom a d = some i) : replyBytes rom a d = encode rom i := by
  simp only [replyBytes, h]

/-! ### The response to a command -/

/-- A frame decodes to a command whose own frame has the same byte 0 (R82, R90). -/
theorem encodeBody_byte0_of_decode {d : List Byte} {i : Instr} (hd : d.length = 16)
    (hi : decodeCommand (byteOf d) = some i) : (encodeBody i).getD 0 0 = d.getD 0 0 := by
  obtain ⟨b0, b1, b2, b3, b4, b5, b6, b7, b8, b9, b10, b11, b12, b13, b14, b15, rfl⟩ := sixteen_bytes d hd
  cases hid : CommandId.ofByte b0 with
  | some c =>
    cases CommandId.ofByte_eq_some_iff.mp hid
    cases c <;> cases hi <;> rfl
  | none =>
    rw [decodeCommand_unknownCommand (c := b0) rfl (CommandId.ofByte_eq_none_iff.mp hid)] at hi
    cases hi
    rfl

/-- The reply to a command is decided by byte 0 of the frame, its operands aside. -/
theorem commandReply_congr {a : EnvAnswers} {d d' : List Byte} (h : d.getD 0 0 = d'.getD 0 0) :
    commandReply a d = commandReply a d' := by
  simp only [commandReply, h]

/-- A byte 0 that names no command is answered with Error UnknownCommand (R188). -/
theorem commandReply_unknown {c : Byte} (a : EnvAnswers) (rest : List Byte) (hc : isUnknownCommandByte c = true) :
    commandReply a (c :: rest) = .error 2 := by
  have hrange : c.toNat = 0 ∨ 8 ≤ c.toNat := by simpa [isUnknownCommandByte] using hc
  simp only [commandReply, List.getD_cons_zero]
  split
  case h_8 => rfl
  all_goals omega

/-- The response an actuation selects, by OPOK (R184 to R186). -/
theorem responseOf_answerActuation (s : State) :
    responseOf (answerActuation s) = if s.opok then .ok else .error 3 := by
  rw [answerActuation_eq]
  cases s.opok <;> rfl

/-- After a request the registers select the reply that the row of its byte 0 names (R181 to R189). -/
theorem exec_request_reply {i : Instr} {s t : State} (hi : i.isRequest = true) (hw : wellFormed i = true)
    (h : exec i s = .next t) : responseOf t = commandReply (answersOf s) (encodeBody i) := by
  match i with
  | .noop | .getProtocolVersion | .getFeatures =>
    cases h
    rfl
  | .unknownCommand c =>
    cases h
    exact (commandReply_unknown _ _ hw).symm
  | .turnCar _ | .adjustSpeed _ | .rotateCam _ _ =>
    cases h
    exact responseOf_answerActuation _
  | .getBatteryState =>
    cases (execGetBatteryState_eq s).symm.trans h
    by_cases hlevel : 0 ≤ s.batteryStateAnswer.toInt <;>
      simp [responseOf, commandReply, encodeBody, frameBody, CommandId.code, CommandId.id, answersOf, hlevel]

/-- The battery query and the poll use up no answer that a command's reply rests on. -/
theorem commandReply_atCommand (s : State) (d : List Byte) :
    commandReply (answersOf (atCommand s)) d = commandReply (answersOf s) d := rfl

/-- The command of a captured frame selects the reply to that frame (R180, R189). -/
theorem exec_atCommand_reply {i : Instr} {s u : State} (hlen : s.pollBytes.length = 16)
    (hi : decodeCommand (byteOf s.pollBytes) = some i) (hu : exec i (atCommand s) = .next u) :
    responseOf u = commandReply (answersOf s) s.pollBytes := by
  rw [exec_request_reply (decodeCommand_isRequest hi) (decodeCommand_wellFormed hi) hu, commandReply_atCommand,
    commandReply_congr (encodeBody_byte0_of_decode hlen hi)]

/-- What an invocation sends is what the poll result and the environment's answers decide (R164, R213, R229). The cases are
the causes in their order: no data, an invalid frame, the battery, the command. -/
theorem step_idle_replyBytes {s t : State} (hs : s.phase = .idle) (ht : step s = .next t) :
    t.transport.sent = s.transport.sent ++ replyBytes s.rom (answersOf s) s.pollBytes := by
  by_cases hdata : s.pollBytes = []
  · cases (step_idle_noData hs hdata).symm.trans ht
    simp [hdata, replyBytes, replyTo]
  cases hv : validFrame s.rom s.pollBytes with
  | false =>
    obtain ⟨_, _, _, hstep⟩ := step_idle_invalid hs hdata hv
    cases hstep.symm.trans ht
    rw [replyBytes_of_replyTo (replyTo_of_invalid _ hdata hv)]
    rfl
  | true =>
    rw [replyBytes_of_replyTo (replyTo_of_valid _ hv)]
    cases hn : s.nearEmptyAnswer with
    | true =>
      cases (step_idle_override hs hv hn).symm.trans ht
      simp [answersOf, hn, atDispatch]
    | false =>
      obtain ⟨hlen, _⟩ := validFrame_iff.mp hv
      obtain ⟨i, hi, _⟩ := decodeCommand_of_sixteen s.pollBytes hlen
      rw [step_idle_command hs hv hn hi] at ht
      obtain ⟨u, hu, hut⟩ := andThen_eq_next ht
      cases (fromResponding_next u).symm.trans hut
      have hf : RequestFrame (atCommand s) u := exec_request_frame (decodeCommand_isRequest hi) hu
      simp [answersOf, hn, hf.transport, hf.rom, exec_atCommand_reply hlen hi hu, atCommand]

/-! ### The frame of a legal response -/

theorem ResponseId.code_range (r : ResponseId) : 1 ≤ r.code.toNat ∧ r.code.toNat ≤ 6 := by cases r <;> decide

/-- Only the value 0 has two zero bytes (R86). -/
theorem eq_zero_of_bytes_eq_zero {v : I16} (hhi : hiByte v = 0) (hlo : loByte v = 0) : v = 0 := by
  rw [← i16OfBytes_hi_lo v, hhi, hlo]
  rfl

/-- The frame of a legal response begins with a response id and is no Error with payload 00 00 (R85, R227). -/
theorem encode_of_sendable (rom : CrcRom) {i : Instr} (h : sendable i = true) :
    ∃ b0 b1 b2 rest, encode rom i = b0 :: b1 :: b2 :: rest ∧ ¬ (b0 = 0x02 ∧ b1 = 0x00 ∧ b2 = 0x00) ∧
      1 ≤ b0.toNat ∧ b0.toNat ≤ 6 := by
  match i with
  | .noop | .getProtocolVersion | .getFeatures | .turnCar _ | .adjustSpeed _ | .rotateCam _ _ | .getBatteryState
  | .unknownCommand _ => cases h
  | .ok | .batteryNearEmpty | .protocolVersion _ | .features _ | .batteryState _ =>
    exact ⟨_, _, _, _, rfl, fun ⟨hcode, _⟩ => absurd hcode (by decide), ResponseId.code_range _⟩
  | .error v =>
    refine ⟨_, hiByte v, loByte v, _, rfl, fun ⟨_, hhi, hlo⟩ => ?_, ResponseId.code_range _⟩
    cases eq_zero_of_bytes_eq_zero hhi hlo
    exact absurd h (by decide)

/-! ### The obligations -/

/-- Settles O43: the bytes and the calls of an invocation, each by its own case split on the causes of R229. -/
theorem responseIsAFunctionOfTheInputs : Obligations.ResponseIsAFunctionOfTheInputs := by
  unfold Obligations.ResponseIsAFunctionOfTheInputs
  intro s hs
  obtain ⟨t, ht, hidle⟩ := step_idle_next hs
  exact ⟨t, ht, hidle, step_idle_replyBytes hs ht, step_idle_calls hs ht⟩

/-- Settles O48, by induction on the number of invocations: each one ends in a state in Idle. -/
theorem runsFromIdleNeverStop : Obligations.RunsFromIdleNeverStop := by
  unfold Obligations.RunsFromIdleNeverStop SafeRun
  intro s hs k
  induction k generalizing s with
  | zero => exact ⟨s, rfl, hs⟩
  | succ k ih =>
    obtain ⟨u, hu, hidle⟩ := step_idle_next hs
    rw [run_succ_of_step hu]
    exact ih u hidle

/-- Settles O41: what is sent is nothing or the frame of one legal response. -/
theorem undefinedErrorIsNeverSent : Obligations.UndefinedErrorIsNeverSent := by
  unfold Obligations.UndefinedErrorIsNeverSent
  intro s hs
  obtain ⟨t, ht, _⟩ := step_idle_next hs
  obtain hnone | ⟨i, hi, hsent⟩ := step_idle_sent hs ht
  · exact ⟨t, [], ht, by simp [hnone], .inl rfl⟩
  · obtain ⟨b0, b1, b2, rest, hframe, hundef, hlow, hhigh⟩ := encode_of_sendable s.rom hi
    exact ⟨t, _, ht, hsent, .inr ⟨b0, b1, b2, rest, hframe, encode_length s.rom i, hlow, hhigh, hundef⟩⟩

/-- Settles O40: the registers written select the response Error with the code, whose frame body is that of its two bytes. -/
theorem raiseErrorSelectsItsResponse : Obligations.RaiseErrorSelectsItsResponse := by
  unfold Obligations.RaiseErrorSelectsItsResponse
  refine ⟨rfl, rfl, rfl, rfl, fun e s => ⟨rfl, ?_⟩⟩
  rw [step_of_responding rfl, fromResponding, responseOf_raiseError]
  exact exec_response_of_body rfl (encodeBody_error_code e) (raiseError e s)

end Sys2Proof.Machine
